-- ==== Sys2Proof/Word.lean ====
section
/-! DEFINITION. The word types of the hardware (00_scope.md R6, R7): bytes and 16-bit words.
Everything computed from them stands in Decode.lean and under Machine/. -/

namespace Sys2Proof

/-- Data width: `A`, `X`, `Y`, `SP` and every Bus datum (R6). -/
abbrev Byte := BitVec 8

/-- Address width: `PC`, `EA` and every Bus address (R6). -/
abbrev Word := BitVec 16

end Sys2Proof
end

