-- ==== Sys2Proof/Config.lean ====
section
/-! DEFINITION. The parameters of 00_scope.md R6, each at the value the spec gives it, and the one free
value of the model. -/

namespace Sys2Proof

/-- `BRK_PAD` (R6, R214, decision D6): the extra PC increment before BRK pushes PC. -/
def Config.brkPad : Word := 1

/-- `HWINT_PUSH_B` (R6, R273, R283, decision D7): bit 4 of the flags byte pushed by IRQ and NMI. -/
def Config.hwintPushB : Bool := true

/-- `KIL_CYCLES` (R6, R264, decision D8). -/
def Config.kilCycles : Nat := 2

/-- `PAGE_CROSS_BONUS` (R6, R102, decision D15). -/
def Config.pageCrossBonus : Nat := 1

/-- The cycle a taken branch adds (R190). -/
def Config.branchTaken : Nat := 1

/-- The further cycle a taken branch to another page adds (R190). -/
def Config.branchOtherPage : Nat := 1

/-- `RESET_CYCLES` (R6, R300, decision D9): the counter's value after `reset()`. -/
def Config.resetCycles : Nat := 0

/-- `IRQ_NMI_CYCLES` (R6, R273, R274). -/
def Config.irqNmiCycles : Nat := 7

/-- `SP` after `reset()` (R6, R300). -/
def Config.resetSP : Byte := 0xFD

/-- The NMI vector (R59). -/
def Config.nmiVector : Word := 0xFFFA

/-- The reset vector (R59). -/
def Config.resetVector : Word := 0xFFFC

/-- The IRQ and BRK vector (R59). -/
def Config.irqVector : Word := 0xFFFE

/-- What a byte of the flat RAM that nothing has written reads as.
DESIGN CHOICE, unsafe: the spec leaves the Bus's contents to the host (R52); log 2. -/
def Config.unlistedByte : Byte := 0

/-- The sentinel that `EA` holds after an Implied or Accumulator resolver (R38, 93 U6: "any value").
DESIGN CHOICE, safe: a FREE VALUE, one for each draw, with no body; log 3. -/
opaque Config.eaSentinel : Nat → Word

end Sys2Proof
end

