-- ==== Sys2Proof/Syntax.lean ====
section
/-! DEFINITION. The instructions as syntax: addressing modes, operands, dispatch rows and ONE constructor of
`Instr` for each of the 256 rows of spec/opcode_table.json (30_encoding.md R86). -/

namespace Sys2Proof

/-- The thirteen addressing modes (00_scope.md Glossary; 40_step_and_addressing.md R104 to R116). -/
inductive Mode where
  | abs  -- Absolute
  | abx  -- AbsoluteX
  | aby  -- AbsoluteY
  | acc  -- Accumulator
  | imm  -- Immediate
  | imp  -- Implied
  | izx  -- IndirectX
  | izy  -- IndirectY
  | ind  -- Indirect
  | rel  -- Relative
  | zp   -- Zeropage
  | zpx  -- ZeropageX
  | zpy  -- ZeropageY
  deriving DecidableEq, Repr

/-- What follows the opcode byte: nothing (format F1), one byte (F2) or one little-endian word (F3) (R81). -/
inductive Operand where
  | none
  | byte (b : Byte)
  | word (w : Word)
  deriving DecidableEq, Repr

/-- One instruction as its dispatch entry and its operand: the opcode byte, the addressing mode, the base
cycle cost and the page-cross flag (R84), and the operand that follows the opcode. -/
structure Row where
  opcode  : Byte
  mode    : Mode
  base    : Nat
  cross   : Bool
  operand : Operand
  deriving DecidableEq, Repr

/-- The instructions: one constructor for each row of rule R86. A name is the mnemonic and the mode (no mode
where it is Implied or Relative); where a mnemonic has several opcodes in one mode, and for the undocumented
NOPs, the opcode byte follows. `b` is the operand byte, `w` the little-endian operand word. The rows with an
operand come first and the rows without one last, each in opcode order (Lean's runtime numbers no more than 244
constructors that have a field). -/
inductive Instr where
  | oraIzx (b : Byte)
  | sloIzx (b : Byte)
  | nopZp04 (b : Byte)
  | oraZp (b : Byte)
  | aslZp (b : Byte)
  | sloZp (b : Byte)
  | oraImm (b : Byte)
  | ancImm0B (b : Byte)
  | nopAbs0C (w : Word)
  | oraAbs (w : Word)
  | aslAbs (w : Word)
  | sloAbs (w : Word)
  | bpl (b : Byte)
  | oraIzy (b : Byte)
  | sloIzy (b : Byte)
  | nopZpx14 (b : Byte)
  | oraZpx (b : Byte)
  | aslZpx (b : Byte)
  | sloZpx (b : Byte)
  | oraAby (w : Word)
  | sloAby (w : Word)
  | nopAbx1C (w : Word)
  | oraAbx (w : Word)
  | aslAbx (w : Word)
  | sloAbx (w : Word)
  | jsrAbs (w : Word)
  | andIzx (b : Byte)
  | rlaIzx (b : Byte)
  | bitZp (b : Byte)
  | andZp (b : Byte)
  | rolZp (b : Byte)
  | rlaZp (b : Byte)
  | andImm (b : Byte)
  | ancImm2B (b : Byte)
  | bitAbs (w : Word)
  | andAbs (w : Word)
  | rolAbs (w : Word)
  | rlaAbs (w : Word)
  | bmi (b : Byte)
  | andIzy (b : Byte)
  | rlaIzy (b : Byte)
  | nopZpx34 (b : Byte)
  | andZpx (b : Byte)
  | rolZpx (b : Byte)
  | rlaZpx (b : Byte)
  | andAby (w : Word)
  | rlaAby (w : Word)
  | nopAbx3C (w : Word)
  | andAbx (w : Word)
  | rolAbx (w : Word)
  | rlaAbx (w : Word)
  | eorIzx (b : Byte)
  | sreIzx (b : Byte)
  | nopZp44 (b : Byte)
  | eorZp (b : Byte)
  | lsrZp (b : Byte)
  | sreZp (b : Byte)
  | eorImm (b : Byte)
  | alrImm (b : Byte)
  | jmpAbs (w : Word)
  | eorAbs (w : Word)
  | lsrAbs (w : Word)
  | sreAbs (w : Word)
  | bvc (b : Byte)
  | eorIzy (b : Byte)
  | sreIzy (b : Byte)
  | nopZpx54 (b : Byte)
  | eorZpx (b : Byte)
  | lsrZpx (b : Byte)
  | sreZpx (b : Byte)
  | eorAby (w : Word)
  | sreAby (w : Word)
  | nopAbx5C (w : Word)
  | eorAbx (w : Word)
  | lsrAbx (w : Word)
  | sreAbx (w : Word)
  | adcIzx (b : Byte)
  | rraIzx (b : Byte)
  | nopZp64 (b : Byte)
  | adcZp (b : Byte)
  | rorZp (b : Byte)
  | rraZp (b : Byte)
  | adcImm (b : Byte)
  | arrImm (b : Byte)
  | jmpInd (w : Word)
  | adcAbs (w : Word)
  | rorAbs (w : Word)
  | rraAbs (w : Word)
  | bvs (b : Byte)
  | adcIzy (b : Byte)
  | rraIzy (b : Byte)
  | nopZpx74 (b : Byte)
  | adcZpx (b : Byte)
  | rorZpx (b : Byte)
  | rraZpx (b : Byte)
  | adcAby (w : Word)
  | rraAby (w : Word)
  | nopAbx7C (w : Word)
  | adcAbx (w : Word)
  | rorAbx (w : Word)
  | rraAbx (w : Word)
  | nopImm80 (b : Byte)
  | staIzx (b : Byte)
  | nopImm82 (b : Byte)
  | saxIzx (b : Byte)
  | styZp (b : Byte)
  | staZp (b : Byte)
  | stxZp (b : Byte)
  | saxZp (b : Byte)
  | nopImm89 (b : Byte)
  | xaaImm (b : Byte)
  | styAbs (w : Word)
  | staAbs (w : Word)
  | stxAbs (w : Word)
  | saxAbs (w : Word)
  | bcc (b : Byte)
  | staIzy (b : Byte)
  | ahxIzy (b : Byte)
  | styZpx (b : Byte)
  | staZpx (b : Byte)
  | stxZpy (b : Byte)
  | saxZpy (b : Byte)
  | staAby (w : Word)
  | tasAby (w : Word)
  | shyAbx (w : Word)
  | staAbx (w : Word)
  | shxAby (w : Word)
  | ahxAby (w : Word)
  | ldyImm (b : Byte)
  | ldaIzx (b : Byte)
  | ldxImm (b : Byte)
  | laxIzx (b : Byte)
  | ldyZp (b : Byte)
  | ldaZp (b : Byte)
  | ldxZp (b : Byte)
  | laxZp (b : Byte)
  | ldaImm (b : Byte)
  | laxImm (b : Byte)
  | ldyAbs (w : Word)
  | ldaAbs (w : Word)
  | ldxAbs (w : Word)
  | laxAbs (w : Word)
  | bcs (b : Byte)
  | ldaIzy (b : Byte)
  | laxIzy (b : Byte)
  | ldyZpx (b : Byte)
  | ldaZpx (b : Byte)
  | ldxZpy (b : Byte)
  | laxZpy (b : Byte)
  | ldaAby (w : Word)
  | lasAby (w : Word)
  | ldyAbx (w : Word)
  | ldaAbx (w : Word)
  | ldxAby (w : Word)
  | laxAby (w : Word)
  | cpyImm (b : Byte)
  | cmpIzx (b : Byte)
  | nopImmC2 (b : Byte)
  | dcpIzx (b : Byte)
  | cpyZp (b : Byte)
  | cmpZp (b : Byte)
  | decZp (b : Byte)
  | dcpZp (b : Byte)
  | cmpImm (b : Byte)
  | axsImm (b : Byte)
  | cpyAbs (w : Word)
  | cmpAbs (w : Word)
  | decAbs (w : Word)
  | dcpAbs (w : Word)
  | bne (b : Byte)
  | cmpIzy (b : Byte)
  | dcpIzy (b : Byte)
  | nopZpxD4 (b : Byte)
  | cmpZpx (b : Byte)
  | decZpx (b : Byte)
  | dcpZpx (b : Byte)
  | cmpAby (w : Word)
  | dcpAby (w : Word)
  | nopAbxDC (w : Word)
  | cmpAbx (w : Word)
  | decAbx (w : Word)
  | dcpAbx (w : Word)
  | cpxImm (b : Byte)
  | sbcIzx (b : Byte)
  | nopImmE2 (b : Byte)
  | iscIzx (b : Byte)
  | cpxZp (b : Byte)
  | sbcZp (b : Byte)
  | incZp (b : Byte)
  | iscZp (b : Byte)
  | sbcImm (b : Byte)
  | sbcImmEB (b : Byte)
  | cpxAbs (w : Word)
  | sbcAbs (w : Word)
  | incAbs (w : Word)
  | iscAbs (w : Word)
  | beq (b : Byte)
  | sbcIzy (b : Byte)
  | iscIzy (b : Byte)
  | nopZpxF4 (b : Byte)
  | sbcZpx (b : Byte)
  | incZpx (b : Byte)
  | iscZpx (b : Byte)
  | sbcAby (w : Word)
  | iscAby (w : Word)
  | nopAbxFC (w : Word)
  | sbcAbx (w : Word)
  | incAbx (w : Word)
  | iscAbx (w : Word)
  | brk
  | kil02
  | php
  | aslAcc
  | kil12
  | clc
  | nopImp1A
  | kil22
  | plp
  | rolAcc
  | kil32
  | sec
  | nopImp3A
  | rti
  | kil42
  | pha
  | lsrAcc
  | kil52
  | cli
  | nopImp5A
  | rts
  | kil62
  | pla
  | rorAcc
  | kil72
  | sei
  | nopImp7A
  | dey
  | txa
  | kil92
  | tya
  | txs
  | tay
  | tax
  | kilB2
  | clv
  | tsx
  | iny
  | dex
  | kilD2
  | cld
  | nopImpDA
  | inx
  | nop
  | kilF2
  | sed
  | nopImpFA
  deriving DecidableEq, Repr

end Sys2Proof
end

