-- ==== Sys2Proof/Decode.lean ====
section
/-! DEFINITION. Bytes and words of an instruction: the bit-field helpers, the dispatch table of 30_encoding.md
R86 as each instruction's row, the encoder, and the decoder (R80 to R83), which is total. -/

namespace Sys2Proof

/-- `lo8(w) = w[7:0]` (00_scope.md R7). -/
def lo8 (w : Word) : Byte := w.extractLsb' 0 8

/-- `hi8(w) = w[15:8]` (R7). -/
def hi8 (w : Word) : Byte := w.extractLsb' 8 8

/-- `page(w) = w[15:8]` (R7, R102). -/
def page (w : Word) : Byte := hi8 w

/-- `hi:lo`, the word `hi * 256 + lo` (R7). -/
def joinBytes (hi lo : Byte) : Word := hi ++ lo

/-- `zext_16(b)` (R8). -/
def zext16 (b : Byte) : Word := b.setWidth 16

/-- `sext_16(b)` (R8). -/
def sext16 (b : Byte) : Word := b.signExtend 16

/-- The operand's first byte in memory order, `operand` or `operand_lo` (R81). -/
def Operand.lo : Operand → Byte
  | .none => 0
  | .byte b => b
  | .word w => lo8 w

/-- The operand's second byte in memory order, `operand_hi` (R81). -/
def Operand.hi : Operand → Byte
  | .none => 0
  | .byte _ => 0
  | .word w => hi8 w

/-- The operand as a 16-bit value (R83). -/
def Operand.asWord : Operand → Word
  | .none => 0
  | .byte b => zext16 b
  | .word w => w

/-- The operand's bytes in memory order: little-endian (R53, R81). -/
def Operand.bytes : Operand → List Byte
  | .none => []
  | .byte b => [b]
  | .word w => [lo8 w, hi8 w]

/-- How many operand bytes each mode has (R81). -/
def Mode.operandBytes : Mode → Nat
  | .imp | .acc => 0
  | .imm | .zp | .zpx | .zpy | .izx | .izy | .rel => 1
  | .abs | .abx | .aby | .ind => 2

/-- The dispatch table `DISPATCH` (R86, decision D1), one row an instruction: opcode, mode, base cycles,
page-cross flag, and the operand the instruction carries. -/
def Instr.row : Instr → Row
  | .brk => ⟨0x00, .imp, 7, false, .none⟩
  | .oraIzx b => ⟨0x01, .izx, 6, false, .byte b⟩
  | .kil02 => ⟨0x02, .imp, Config.kilCycles, false, .none⟩
  | .sloIzx b => ⟨0x03, .izx, 8, false, .byte b⟩
  | .nopZp04 b => ⟨0x04, .zp, 3, false, .byte b⟩
  | .oraZp b => ⟨0x05, .zp, 3, false, .byte b⟩
  | .aslZp b => ⟨0x06, .zp, 5, false, .byte b⟩
  | .sloZp b => ⟨0x07, .zp, 5, false, .byte b⟩
  | .php => ⟨0x08, .imp, 3, false, .none⟩
  | .oraImm b => ⟨0x09, .imm, 2, false, .byte b⟩
  | .aslAcc => ⟨0x0A, .acc, 2, false, .none⟩
  | .ancImm0B b => ⟨0x0B, .imm, 2, false, .byte b⟩
  | .nopAbs0C w => ⟨0x0C, .abs, 4, false, .word w⟩
  | .oraAbs w => ⟨0x0D, .abs, 4, false, .word w⟩
  | .aslAbs w => ⟨0x0E, .abs, 6, false, .word w⟩
  | .sloAbs w => ⟨0x0F, .abs, 6, false, .word w⟩
  | .bpl b => ⟨0x10, .rel, 2, false, .byte b⟩
  | .oraIzy b => ⟨0x11, .izy, 5, true, .byte b⟩
  | .kil12 => ⟨0x12, .imp, Config.kilCycles, false, .none⟩
  | .sloIzy b => ⟨0x13, .izy, 8, false, .byte b⟩
  | .nopZpx14 b => ⟨0x14, .zpx, 4, false, .byte b⟩
  | .oraZpx b => ⟨0x15, .zpx, 4, false, .byte b⟩
  | .aslZpx b => ⟨0x16, .zpx, 6, false, .byte b⟩
  | .sloZpx b => ⟨0x17, .zpx, 6, false, .byte b⟩
  | .clc => ⟨0x18, .imp, 2, false, .none⟩
  | .oraAby w => ⟨0x19, .aby, 4, true, .word w⟩
  | .nopImp1A => ⟨0x1A, .imp, 2, false, .none⟩
  | .sloAby w => ⟨0x1B, .aby, 7, false, .word w⟩
  | .nopAbx1C w => ⟨0x1C, .abx, 4, true, .word w⟩
  | .oraAbx w => ⟨0x1D, .abx, 4, true, .word w⟩
  | .aslAbx w => ⟨0x1E, .abx, 7, false, .word w⟩
  | .sloAbx w => ⟨0x1F, .abx, 7, false, .word w⟩
  | .jsrAbs w => ⟨0x20, .abs, 6, false, .word w⟩
  | .andIzx b => ⟨0x21, .izx, 6, false, .byte b⟩
  | .kil22 => ⟨0x22, .imp, Config.kilCycles, false, .none⟩
  | .rlaIzx b => ⟨0x23, .izx, 8, false, .byte b⟩
  | .bitZp b => ⟨0x24, .zp, 3, false, .byte b⟩
  | .andZp b => ⟨0x25, .zp, 3, false, .byte b⟩
  | .rolZp b => ⟨0x26, .zp, 5, false, .byte b⟩
  | .rlaZp b => ⟨0x27, .zp, 5, false, .byte b⟩
  | .plp => ⟨0x28, .imp, 4, false, .none⟩
  | .andImm b => ⟨0x29, .imm, 2, false, .byte b⟩
  | .rolAcc => ⟨0x2A, .acc, 2, false, .none⟩
  | .ancImm2B b => ⟨0x2B, .imm, 2, false, .byte b⟩
  | .bitAbs w => ⟨0x2C, .abs, 4, false, .word w⟩
  | .andAbs w => ⟨0x2D, .abs, 4, false, .word w⟩
  | .rolAbs w => ⟨0x2E, .abs, 6, false, .word w⟩
  | .rlaAbs w => ⟨0x2F, .abs, 6, false, .word w⟩
  | .bmi b => ⟨0x30, .rel, 2, false, .byte b⟩
  | .andIzy b => ⟨0x31, .izy, 5, true, .byte b⟩
  | .kil32 => ⟨0x32, .imp, Config.kilCycles, false, .none⟩
  | .rlaIzy b => ⟨0x33, .izy, 8, false, .byte b⟩
  | .nopZpx34 b => ⟨0x34, .zpx, 4, false, .byte b⟩
  | .andZpx b => ⟨0x35, .zpx, 4, false, .byte b⟩
  | .rolZpx b => ⟨0x36, .zpx, 6, false, .byte b⟩
  | .rlaZpx b => ⟨0x37, .zpx, 6, false, .byte b⟩
  | .sec => ⟨0x38, .imp, 2, false, .none⟩
  | .andAby w => ⟨0x39, .aby, 4, true, .word w⟩
  | .nopImp3A => ⟨0x3A, .imp, 2, false, .none⟩
  | .rlaAby w => ⟨0x3B, .aby, 7, false, .word w⟩
  | .nopAbx3C w => ⟨0x3C, .abx, 4, true, .word w⟩
  | .andAbx w => ⟨0x3D, .abx, 4, true, .word w⟩
  | .rolAbx w => ⟨0x3E, .abx, 7, false, .word w⟩
  | .rlaAbx w => ⟨0x3F, .abx, 7, false, .word w⟩
  | .rti => ⟨0x40, .imp, 6, false, .none⟩
  | .eorIzx b => ⟨0x41, .izx, 6, false, .byte b⟩
  | .kil42 => ⟨0x42, .imp, Config.kilCycles, false, .none⟩
  | .sreIzx b => ⟨0x43, .izx, 8, false, .byte b⟩
  | .nopZp44 b => ⟨0x44, .zp, 3, false, .byte b⟩
  | .eorZp b => ⟨0x45, .zp, 3, false, .byte b⟩
  | .lsrZp b => ⟨0x46, .zp, 5, false, .byte b⟩
  | .sreZp b => ⟨0x47, .zp, 5, false, .byte b⟩
  | .pha => ⟨0x48, .imp, 3, false, .none⟩
  | .eorImm b => ⟨0x49, .imm, 2, false, .byte b⟩
  | .lsrAcc => ⟨0x4A, .acc, 2, false, .none⟩
  | .alrImm b => ⟨0x4B, .imm, 2, false, .byte b⟩
  | .jmpAbs w => ⟨0x4C, .abs, 3, false, .word w⟩
  | .eorAbs w => ⟨0x4D, .abs, 4, false, .word w⟩
  | .lsrAbs w => ⟨0x4E, .abs, 6, false, .word w⟩
  | .sreAbs w => ⟨0x4F, .abs, 6, false, .word w⟩
  | .bvc b => ⟨0x50, .rel, 2, false, .byte b⟩
  | .eorIzy b => ⟨0x51, .izy, 5, true, .byte b⟩
  | .kil52 => ⟨0x52, .imp, Config.kilCycles, false, .none⟩
  | .sreIzy b => ⟨0x53, .izy, 8, false, .byte b⟩
  | .nopZpx54 b => ⟨0x54, .zpx, 4, false, .byte b⟩
  | .eorZpx b => ⟨0x55, .zpx, 4, false, .byte b⟩
  | .lsrZpx b => ⟨0x56, .zpx, 6, false, .byte b⟩
  | .sreZpx b => ⟨0x57, .zpx, 6, false, .byte b⟩
  | .cli => ⟨0x58, .imp, 2, false, .none⟩
  | .eorAby w => ⟨0x59, .aby, 4, true, .word w⟩
  | .nopImp5A => ⟨0x5A, .imp, 2, false, .none⟩
  | .sreAby w => ⟨0x5B, .aby, 7, false, .word w⟩
  | .nopAbx5C w => ⟨0x5C, .abx, 4, true, .word w⟩
  | .eorAbx w => ⟨0x5D, .abx, 4, true, .word w⟩
  | .lsrAbx w => ⟨0x5E, .abx, 7, false, .word w⟩
  | .sreAbx w => ⟨0x5F, .abx, 7, false, .word w⟩
  | .rts => ⟨0x60, .imp, 6, false, .none⟩
  | .adcIzx b => ⟨0x61, .izx, 6, false, .byte b⟩
  | .kil62 => ⟨0x62, .imp, Config.kilCycles, false, .none⟩
  | .rraIzx b => ⟨0x63, .izx, 8, false, .byte b⟩
  | .nopZp64 b => ⟨0x64, .zp, 3, false, .byte b⟩
  | .adcZp b => ⟨0x65, .zp, 3, false, .byte b⟩
  | .rorZp b => ⟨0x66, .zp, 5, false, .byte b⟩
  | .rraZp b => ⟨0x67, .zp, 5, false, .byte b⟩
  | .pla => ⟨0x68, .imp, 4, false, .none⟩
  | .adcImm b => ⟨0x69, .imm, 2, false, .byte b⟩
  | .rorAcc => ⟨0x6A, .acc, 2, false, .none⟩
  | .arrImm b => ⟨0x6B, .imm, 2, false, .byte b⟩
  | .jmpInd w => ⟨0x6C, .ind, 5, false, .word w⟩
  | .adcAbs w => ⟨0x6D, .abs, 4, false, .word w⟩
  | .rorAbs w => ⟨0x6E, .abs, 6, false, .word w⟩
  | .rraAbs w => ⟨0x6F, .abs, 6, false, .word w⟩
  | .bvs b => ⟨0x70, .rel, 2, false, .byte b⟩
  | .adcIzy b => ⟨0x71, .izy, 5, true, .byte b⟩
  | .kil72 => ⟨0x72, .imp, Config.kilCycles, false, .none⟩
  | .rraIzy b => ⟨0x73, .izy, 8, false, .byte b⟩
  | .nopZpx74 b => ⟨0x74, .zpx, 4, false, .byte b⟩
  | .adcZpx b => ⟨0x75, .zpx, 4, false, .byte b⟩
  | .rorZpx b => ⟨0x76, .zpx, 6, false, .byte b⟩
  | .rraZpx b => ⟨0x77, .zpx, 6, false, .byte b⟩
  | .sei => ⟨0x78, .imp, 2, false, .none⟩
  | .adcAby w => ⟨0x79, .aby, 4, true, .word w⟩
  | .nopImp7A => ⟨0x7A, .imp, 2, false, .none⟩
  | .rraAby w => ⟨0x7B, .aby, 7, false, .word w⟩
  | .nopAbx7C w => ⟨0x7C, .abx, 4, true, .word w⟩
  | .adcAbx w => ⟨0x7D, .abx, 4, true, .word w⟩
  | .rorAbx w => ⟨0x7E, .abx, 7, false, .word w⟩
  | .rraAbx w => ⟨0x7F, .abx, 7, false, .word w⟩
  | .nopImm80 b => ⟨0x80, .imm, 2, false, .byte b⟩
  | .staIzx b => ⟨0x81, .izx, 6, false, .byte b⟩
  | .nopImm82 b => ⟨0x82, .imm, 2, false, .byte b⟩
  | .saxIzx b => ⟨0x83, .izx, 6, false, .byte b⟩
  | .styZp b => ⟨0x84, .zp, 3, false, .byte b⟩
  | .staZp b => ⟨0x85, .zp, 3, false, .byte b⟩
  | .stxZp b => ⟨0x86, .zp, 3, false, .byte b⟩
  | .saxZp b => ⟨0x87, .zp, 3, false, .byte b⟩
  | .dey => ⟨0x88, .imp, 2, false, .none⟩
  | .nopImm89 b => ⟨0x89, .imm, 2, false, .byte b⟩
  | .txa => ⟨0x8A, .imp, 2, false, .none⟩
  | .xaaImm b => ⟨0x8B, .imm, 2, false, .byte b⟩
  | .styAbs w => ⟨0x8C, .abs, 4, false, .word w⟩
  | .staAbs w => ⟨0x8D, .abs, 4, false, .word w⟩
  | .stxAbs w => ⟨0x8E, .abs, 4, false, .word w⟩
  | .saxAbs w => ⟨0x8F, .abs, 4, false, .word w⟩
  | .bcc b => ⟨0x90, .rel, 2, false, .byte b⟩
  | .staIzy b => ⟨0x91, .izy, 6, false, .byte b⟩
  | .kil92 => ⟨0x92, .imp, Config.kilCycles, false, .none⟩
  | .ahxIzy b => ⟨0x93, .izy, 6, false, .byte b⟩
  | .styZpx b => ⟨0x94, .zpx, 4, false, .byte b⟩
  | .staZpx b => ⟨0x95, .zpx, 4, false, .byte b⟩
  | .stxZpy b => ⟨0x96, .zpy, 4, false, .byte b⟩
  | .saxZpy b => ⟨0x97, .zpy, 4, false, .byte b⟩
  | .tya => ⟨0x98, .imp, 2, false, .none⟩
  | .staAby w => ⟨0x99, .aby, 5, false, .word w⟩
  | .txs => ⟨0x9A, .imp, 2, false, .none⟩
  | .tasAby w => ⟨0x9B, .aby, 5, false, .word w⟩
  | .shyAbx w => ⟨0x9C, .abx, 5, false, .word w⟩
  | .staAbx w => ⟨0x9D, .abx, 5, false, .word w⟩
  | .shxAby w => ⟨0x9E, .aby, 5, false, .word w⟩
  | .ahxAby w => ⟨0x9F, .aby, 5, false, .word w⟩
  | .ldyImm b => ⟨0xA0, .imm, 2, false, .byte b⟩
  | .ldaIzx b => ⟨0xA1, .izx, 6, false, .byte b⟩
  | .ldxImm b => ⟨0xA2, .imm, 2, false, .byte b⟩
  | .laxIzx b => ⟨0xA3, .izx, 6, false, .byte b⟩
  | .ldyZp b => ⟨0xA4, .zp, 3, false, .byte b⟩
  | .ldaZp b => ⟨0xA5, .zp, 3, false, .byte b⟩
  | .ldxZp b => ⟨0xA6, .zp, 3, false, .byte b⟩
  | .laxZp b => ⟨0xA7, .zp, 3, false, .byte b⟩
  | .tay => ⟨0xA8, .imp, 2, false, .none⟩
  | .ldaImm b => ⟨0xA9, .imm, 2, false, .byte b⟩
  | .tax => ⟨0xAA, .imp, 2, false, .none⟩
  | .laxImm b => ⟨0xAB, .imm, 2, false, .byte b⟩
  | .ldyAbs w => ⟨0xAC, .abs, 4, false, .word w⟩
  | .ldaAbs w => ⟨0xAD, .abs, 4, false, .word w⟩
  | .ldxAbs w => ⟨0xAE, .abs, 4, false, .word w⟩
  | .laxAbs w => ⟨0xAF, .abs, 4, false, .word w⟩
  | .bcs b => ⟨0xB0, .rel, 2, false, .byte b⟩
  | .ldaIzy b => ⟨0xB1, .izy, 5, true, .byte b⟩
  | .kilB2 => ⟨0xB2, .imp, Config.kilCycles, false, .none⟩
  | .laxIzy b => ⟨0xB3, .izy, 5, true, .byte b⟩
  | .ldyZpx b => ⟨0xB4, .zpx, 4, false, .byte b⟩
  | .ldaZpx b => ⟨0xB5, .zpx, 4, false, .byte b⟩
  | .ldxZpy b => ⟨0xB6, .zpy, 4, false, .byte b⟩
  | .laxZpy b => ⟨0xB7, .zpy, 4, false, .byte b⟩
  | .clv => ⟨0xB8, .imp, 2, false, .none⟩
  | .ldaAby w => ⟨0xB9, .aby, 4, true, .word w⟩
  | .tsx => ⟨0xBA, .imp, 2, false, .none⟩
  | .lasAby w => ⟨0xBB, .aby, 4, true, .word w⟩
  | .ldyAbx w => ⟨0xBC, .abx, 4, true, .word w⟩
  | .ldaAbx w => ⟨0xBD, .abx, 4, true, .word w⟩
  | .ldxAby w => ⟨0xBE, .aby, 4, true, .word w⟩
  | .laxAby w => ⟨0xBF, .aby, 4, true, .word w⟩
  | .cpyImm b => ⟨0xC0, .imm, 2, false, .byte b⟩
  | .cmpIzx b => ⟨0xC1, .izx, 6, false, .byte b⟩
  | .nopImmC2 b => ⟨0xC2, .imm, 2, false, .byte b⟩
  | .dcpIzx b => ⟨0xC3, .izx, 8, false, .byte b⟩
  | .cpyZp b => ⟨0xC4, .zp, 3, false, .byte b⟩
  | .cmpZp b => ⟨0xC5, .zp, 3, false, .byte b⟩
  | .decZp b => ⟨0xC6, .zp, 5, false, .byte b⟩
  | .dcpZp b => ⟨0xC7, .zp, 5, false, .byte b⟩
  | .iny => ⟨0xC8, .imp, 2, false, .none⟩
  | .cmpImm b => ⟨0xC9, .imm, 2, false, .byte b⟩
  | .dex => ⟨0xCA, .imp, 2, false, .none⟩
  | .axsImm b => ⟨0xCB, .imm, 2, false, .byte b⟩
  | .cpyAbs w => ⟨0xCC, .abs, 4, false, .word w⟩
  | .cmpAbs w => ⟨0xCD, .abs, 4, false, .word w⟩
  | .decAbs w => ⟨0xCE, .abs, 6, false, .word w⟩
  | .dcpAbs w => ⟨0xCF, .abs, 6, false, .word w⟩
  | .bne b => ⟨0xD0, .rel, 2, false, .byte b⟩
  | .cmpIzy b => ⟨0xD1, .izy, 5, true, .byte b⟩
  | .kilD2 => ⟨0xD2, .imp, Config.kilCycles, false, .none⟩
  | .dcpIzy b => ⟨0xD3, .izy, 8, false, .byte b⟩
  | .nopZpxD4 b => ⟨0xD4, .zpx, 4, false, .byte b⟩
  | .cmpZpx b => ⟨0xD5, .zpx, 4, false, .byte b⟩
  | .decZpx b => ⟨0xD6, .zpx, 6, false, .byte b⟩
  | .dcpZpx b => ⟨0xD7, .zpx, 6, false, .byte b⟩
  | .cld => ⟨0xD8, .imp, 2, false, .none⟩
  | .cmpAby w => ⟨0xD9, .aby, 4, true, .word w⟩
  | .nopImpDA => ⟨0xDA, .imp, 2, false, .none⟩
  | .dcpAby w => ⟨0xDB, .aby, 7, false, .word w⟩
  | .nopAbxDC w => ⟨0xDC, .abx, 4, true, .word w⟩
  | .cmpAbx w => ⟨0xDD, .abx, 4, true, .word w⟩
  | .decAbx w => ⟨0xDE, .abx, 7, false, .word w⟩
  | .dcpAbx w => ⟨0xDF, .abx, 7, false, .word w⟩
  | .cpxImm b => ⟨0xE0, .imm, 2, false, .byte b⟩
  | .sbcIzx b => ⟨0xE1, .izx, 6, false, .byte b⟩
  | .nopImmE2 b => ⟨0xE2, .imm, 2, false, .byte b⟩
  | .iscIzx b => ⟨0xE3, .izx, 8, false, .byte b⟩
  | .cpxZp b => ⟨0xE4, .zp, 3, false, .byte b⟩
  | .sbcZp b => ⟨0xE5, .zp, 3, false, .byte b⟩
  | .incZp b => ⟨0xE6, .zp, 5, false, .byte b⟩
  | .iscZp b => ⟨0xE7, .zp, 5, false, .byte b⟩
  | .inx => ⟨0xE8, .imp, 2, false, .none⟩
  | .sbcImm b => ⟨0xE9, .imm, 2, false, .byte b⟩
  | .nop => ⟨0xEA, .imp, 2, false, .none⟩
  | .sbcImmEB b => ⟨0xEB, .imm, 2, false, .byte b⟩
  | .cpxAbs w => ⟨0xEC, .abs, 4, false, .word w⟩
  | .sbcAbs w => ⟨0xED, .abs, 4, false, .word w⟩
  | .incAbs w => ⟨0xEE, .abs, 6, false, .word w⟩
  | .iscAbs w => ⟨0xEF, .abs, 6, false, .word w⟩
  | .beq b => ⟨0xF0, .rel, 2, false, .byte b⟩
  | .sbcIzy b => ⟨0xF1, .izy, 5, true, .byte b⟩
  | .kilF2 => ⟨0xF2, .imp, Config.kilCycles, false, .none⟩
  | .iscIzy b => ⟨0xF3, .izy, 8, false, .byte b⟩
  | .nopZpxF4 b => ⟨0xF4, .zpx, 4, false, .byte b⟩
  | .sbcZpx b => ⟨0xF5, .zpx, 4, false, .byte b⟩
  | .incZpx b => ⟨0xF6, .zpx, 6, false, .byte b⟩
  | .iscZpx b => ⟨0xF7, .zpx, 6, false, .byte b⟩
  | .sed => ⟨0xF8, .imp, 2, false, .none⟩
  | .sbcAby w => ⟨0xF9, .aby, 4, true, .word w⟩
  | .nopImpFA => ⟨0xFA, .imp, 2, false, .none⟩
  | .iscAby w => ⟨0xFB, .aby, 7, false, .word w⟩
  | .nopAbxFC w => ⟨0xFC, .abx, 4, true, .word w⟩
  | .sbcAbx w => ⟨0xFD, .abx, 4, true, .word w⟩
  | .incAbx w => ⟨0xFE, .abx, 7, false, .word w⟩
  | .iscAbx w => ⟨0xFF, .abx, 7, false, .word w⟩

/-- An instruction's length in bytes (R82). -/
def Instr.length (i : Instr) : Nat := 1 + i.row.mode.operandBytes

/-- The encoder: the opcode byte, then the operand bytes, at ascending addresses (R80, R81). -/
def encode (i : Instr) : List Byte := i.row.opcode :: i.row.operand.bytes

/-- Row 0x of the opcode matrix (R86, R87), with the operand byte `b` and the operand word `w`. -/
def matrixRow0 (b : Byte) (w : Word) : List Instr :=
  [.brk, .oraIzx b, .kil02, .sloIzx b,
   .nopZp04 b, .oraZp b, .aslZp b, .sloZp b,
   .php, .oraImm b, .aslAcc, .ancImm0B b,
   .nopAbs0C w, .oraAbs w, .aslAbs w, .sloAbs w]

/-- Row 1x of the opcode matrix (R86, R87), with the operand byte `b` and the operand word `w`. -/
def matrixRow1 (b : Byte) (w : Word) : List Instr :=
  [.bpl b, .oraIzy b, .kil12, .sloIzy b,
   .nopZpx14 b, .oraZpx b, .aslZpx b, .sloZpx b,
   .clc, .oraAby w, .nopImp1A, .sloAby w,
   .nopAbx1C w, .oraAbx w, .aslAbx w, .sloAbx w]

/-- Row 2x of the opcode matrix (R86, R87), with the operand byte `b` and the operand word `w`. -/
def matrixRow2 (b : Byte) (w : Word) : List Instr :=
  [.jsrAbs w, .andIzx b, .kil22, .rlaIzx b,
   .bitZp b, .andZp b, .rolZp b, .rlaZp b,
   .plp, .andImm b, .rolAcc, .ancImm2B b,
   .bitAbs w, .andAbs w, .rolAbs w, .rlaAbs w]

/-- Row 3x of the opcode matrix (R86, R87), with the operand byte `b` and the operand word `w`. -/
def matrixRow3 (b : Byte) (w : Word) : List Instr :=
  [.bmi b, .andIzy b, .kil32, .rlaIzy b,
   .nopZpx34 b, .andZpx b, .rolZpx b, .rlaZpx b,
   .sec, .andAby w, .nopImp3A, .rlaAby w,
   .nopAbx3C w, .andAbx w, .rolAbx w, .rlaAbx w]

/-- Row 4x of the opcode matrix (R86, R87), with the operand byte `b` and the operand word `w`. -/
def matrixRow4 (b : Byte) (w : Word) : List Instr :=
  [.rti, .eorIzx b, .kil42, .sreIzx b,
   .nopZp44 b, .eorZp b, .lsrZp b, .sreZp b,
   .pha, .eorImm b, .lsrAcc, .alrImm b,
   .jmpAbs w, .eorAbs w, .lsrAbs w, .sreAbs w]

/-- Row 5x of the opcode matrix (R86, R87), with the operand byte `b` and the operand word `w`. -/
def matrixRow5 (b : Byte) (w : Word) : List Instr :=
  [.bvc b, .eorIzy b, .kil52, .sreIzy b,
   .nopZpx54 b, .eorZpx b, .lsrZpx b, .sreZpx b,
   .cli, .eorAby w, .nopImp5A, .sreAby w,
   .nopAbx5C w, .eorAbx w, .lsrAbx w, .sreAbx w]

/-- Row 6x of the opcode matrix (R86, R87), with the operand byte `b` and the operand word `w`. -/
def matrixRow6 (b : Byte) (w : Word) : List Instr :=
  [.rts, .adcIzx b, .kil62, .rraIzx b,
   .nopZp64 b, .adcZp b, .rorZp b, .rraZp b,
   .pla, .adcImm b, .rorAcc, .arrImm b,
   .jmpInd w, .adcAbs w, .rorAbs w, .rraAbs w]

/-- Row 7x of the opcode matrix (R86, R87), with the operand byte `b` and the operand word `w`. -/
def matrixRow7 (b : Byte) (w : Word) : List Instr :=
  [.bvs b, .adcIzy b, .kil72, .rraIzy b,
   .nopZpx74 b, .adcZpx b, .rorZpx b, .rraZpx b,
   .sei, .adcAby w, .nopImp7A, .rraAby w,
   .nopAbx7C w, .adcAbx w, .rorAbx w, .rraAbx w]

/-- Row 8x of the opcode matrix (R86, R87), with the operand byte `b` and the operand word `w`. -/
def matrixRow8 (b : Byte) (w : Word) : List Instr :=
  [.nopImm80 b, .staIzx b, .nopImm82 b, .saxIzx b,
   .styZp b, .staZp b, .stxZp b, .saxZp b,
   .dey, .nopImm89 b, .txa, .xaaImm b,
   .styAbs w, .staAbs w, .stxAbs w, .saxAbs w]

/-- Row 9x of the opcode matrix (R86, R87), with the operand byte `b` and the operand word `w`. -/
def matrixRow9 (b : Byte) (w : Word) : List Instr :=
  [.bcc b, .staIzy b, .kil92, .ahxIzy b,
   .styZpx b, .staZpx b, .stxZpy b, .saxZpy b,
   .tya, .staAby w, .txs, .tasAby w,
   .shyAbx w, .staAbx w, .shxAby w, .ahxAby w]

/-- Row Ax of the opcode matrix (R86, R87), with the operand byte `b` and the operand word `w`. -/
def matrixRowA (b : Byte) (w : Word) : List Instr :=
  [.ldyImm b, .ldaIzx b, .ldxImm b, .laxIzx b,
   .ldyZp b, .ldaZp b, .ldxZp b, .laxZp b,
   .tay, .ldaImm b, .tax, .laxImm b,
   .ldyAbs w, .ldaAbs w, .ldxAbs w, .laxAbs w]

/-- Row Bx of the opcode matrix (R86, R87), with the operand byte `b` and the operand word `w`. -/
def matrixRowB (b : Byte) (w : Word) : List Instr :=
  [.bcs b, .ldaIzy b, .kilB2, .laxIzy b,
   .ldyZpx b, .ldaZpx b, .ldxZpy b, .laxZpy b,
   .clv, .ldaAby w, .tsx, .lasAby w,
   .ldyAbx w, .ldaAbx w, .ldxAby w, .laxAby w]

/-- Row Cx of the opcode matrix (R86, R87), with the operand byte `b` and the operand word `w`. -/
def matrixRowC (b : Byte) (w : Word) : List Instr :=
  [.cpyImm b, .cmpIzx b, .nopImmC2 b, .dcpIzx b,
   .cpyZp b, .cmpZp b, .decZp b, .dcpZp b,
   .iny, .cmpImm b, .dex, .axsImm b,
   .cpyAbs w, .cmpAbs w, .decAbs w, .dcpAbs w]

/-- Row Dx of the opcode matrix (R86, R87), with the operand byte `b` and the operand word `w`. -/
def matrixRowD (b : Byte) (w : Word) : List Instr :=
  [.bne b, .cmpIzy b, .kilD2, .dcpIzy b,
   .nopZpxD4 b, .cmpZpx b, .decZpx b, .dcpZpx b,
   .cld, .cmpAby w, .nopImpDA, .dcpAby w,
   .nopAbxDC w, .cmpAbx w, .decAbx w, .dcpAbx w]

/-- Row Ex of the opcode matrix (R86, R87), with the operand byte `b` and the operand word `w`. -/
def matrixRowE (b : Byte) (w : Word) : List Instr :=
  [.cpxImm b, .sbcIzx b, .nopImmE2 b, .iscIzx b,
   .cpxZp b, .sbcZp b, .incZp b, .iscZp b,
   .inx, .sbcImm b, .nop, .sbcImmEB b,
   .cpxAbs w, .sbcAbs w, .incAbs w, .iscAbs w]

/-- Row Fx of the opcode matrix (R86, R87), with the operand byte `b` and the operand word `w`. -/
def matrixRowF (b : Byte) (w : Word) : List Instr :=
  [.beq b, .sbcIzy b, .kilF2, .iscIzy b,
   .nopZpxF4 b, .sbcZpx b, .incZpx b, .iscZpx b,
   .sed, .sbcAby w, .nopImpFA, .iscAby w,
   .nopAbxFC w, .sbcAbx w, .incAbx w, .iscAbx w]

/-- The opcode matrix: row `n`, entry `k` is the instruction of opcode `16 * n + k` (R86, R87). -/
def matrixRow (b : Byte) (w : Word) : Nat → List Instr
  | 0 => matrixRow0 b w
  | 1 => matrixRow1 b w
  | 2 => matrixRow2 b w
  | 3 => matrixRow3 b w
  | 4 => matrixRow4 b w
  | 5 => matrixRow5 b w
  | 6 => matrixRow6 b w
  | 7 => matrixRow7 b w
  | 8 => matrixRow8 b w
  | 9 => matrixRow9 b w
  | 10 => matrixRowA b w
  | 11 => matrixRowB b w
  | 12 => matrixRowC b w
  | 13 => matrixRowD b w
  | 14 => matrixRowE b w
  | _ => matrixRowF b w

/-- Every row has sixteen entries, so every opcode value has one (R82, R88: all 256 are defined). -/
theorem matrixRow_length (b : Byte) (w : Word) (n : Nat) : (matrixRow b w n).length = 16 := by
  unfold matrixRow
  split <;> rfl

/-- The decoder: the opcode byte alone selects the entry (R80), `b1` and `b2` are the bytes after it (R83).
Total: "decoding never fails" (R82). -/
def decode (b0 b1 b2 : Byte) : Instr :=
  (matrixRow b1 (joinBytes b2 b1) (b0.toNat / 16))[b0.toNat % 16]'(by
    rw [matrixRow_length]; exact Nat.mod_lt _ (by decide))

/-- Why a list of bytes may hold no instruction. -/
inductive DecodeError where
  /-- The bytes end before the opcode's operand bytes do. -/
  | truncated
  deriving DecidableEq, Repr

/-- Decode the first instruction of a list of bytes: the instruction and the bytes after it. The opcode gives
the length (R82); only bytes that run out are rejected. -/
def decodeBytes : List Byte → Except DecodeError (Instr × List Byte)
  | [] => .error .truncated
  | b0 :: rest =>
    if rest.length < (decode b0 0 0).row.mode.operandBytes then .error .truncated
    else .ok (decode b0 (rest.getD 0 0) (rest.getD 1 0), rest.drop (decode b0 0 0).row.mode.operandBytes)

/-- Byte `k` of the number `w` of which only the low `nbits` bits count. -/
def tableByte (nbits w k : Nat) : Byte := BitVec.ofNat 8 (w % 2 ^ nbits / 256 ^ k)

/-- The instruction the decoder reads from bits numbered as spec/opcode_table.json numbers them (R81: the byte
at the lowest address least significant), every bit from `nbits` on being 0. -/
def decodeTableWord (nbits w : Nat) : Option Instr :=
  match decodeBytes [tableByte nbits w 0, tableByte nbits w 1, tableByte nbits w 2] with
  | .ok (i, _) => some i
  | .error _ => none

end Sys2Proof
end

