-- ==== Sys2Proof/Machine/State.lean ====
section
/-! DEFINITION. The machine's state as plain data: the CPU state of 10_state.md R20, the memory behind the Bus
(20_memory.md R52) with the answers the host's Bus gives instead, and four fields of the model's own; the reasons a
step can stop; the state after reset. -/

namespace Sys2Proof.Machine

/-- The six stored flags (R25). Bits 5 and 4 of the flags byte are not state (R30). -/
structure Flags where
  /-- Negative (R26). -/
  n : Bool
  /-- Overflow (R27). -/
  v : Bool
  /-- Decimal (R28). -/
  d : Bool
  /-- Interrupt-disable (R29). -/
  i : Bool
  /-- Zero (R33). -/
  z : Bool
  /-- Carry (R34). -/
  c : Bool
  deriving DecidableEq, Repr

/-- One Bus access: every access moves one byte (20_memory.md R50, R56). -/
inductive Access where
  /-- `Bus.read(a)` returned `v`. -/
  | read (a : Word) (v : Byte)
  /-- `Bus.write(a, v)`. -/
  | write (a : Word) (v : Byte)
  deriving DecidableEq, Repr

/-- What the Bus returns to one read: a byte of the host's own choosing, or (`none`) what the flat RAM holds (R52).
Log 1. -/
abbrev BusAnswer := Option Byte

/-- What the host can do next (60_exceptions.md R272, R276; 70_reset_and_hazards.md R301, R304; 20_memory.md R66). -/
inductive HostCall where
  /-- `step()` (R100). -/
  | step
  /-- `triggerIRQ()` (R273). -/
  | irq
  /-- `triggerNMI()` (R274). -/
  | nmi
  /-- `reset()` (R300). -/
  | reset
  /-- `initialize()` (R301). -/
  | init
  /-- The host makes the Bus return `v` at `a` from now on (R66, R303). -/
  | busSet (a : Word) (v : Byte)
  /-- The host settles what the Bus returns to its coming reads, whatever the addresses (R52, R66). -/
  | busAnswers (l : List BusAnswer)
  deriving DecidableEq, Repr

/-- The bytes of the flat RAM behind the Bus: (address, byte) pairs in one canonical form (`Memory.wf`). -/
abbrev Memory := List Host.Cell

/-- The state of the machine. -/
structure State where
  /-- Accumulator (R21). -/
  a : Byte
  /-- Index register X (R21). -/
  x : Byte
  /-- Index register Y (R21). -/
  y : Byte
  /-- Stack pointer into page 1 (R22). -/
  sp : Byte
  /-- Program counter (R23). -/
  pc : Word
  /-- The six flags (R25). -/
  p : Flags
  /-- `CurrentMode` (R37). -/
  mode : Mode
  /-- `EA`, the EffectiveAddress scratch (R38). -/
  ea : Word
  /-- `CycleCounter`, unbounded (R35). -/
  cycles : Nat
  /-- `LastOpcode` (R36). -/
  lastOpcode : Byte
  /-- The flat 65536-byte RAM behind the Bus (R51, R52): every Bus write lands in it, and a read that `answers` does not
  settle returns what it holds. -/
  mem : Memory
  /-- The Bus as read oracle (R52, decision D20): what it returns to its coming reads, the next one first. A read
  takes one entry; behind the end of the list, and at `none`, the flat RAM answers. Log 1. -/
  answers : List BusAnswer
  /-- The model's own: the Bus accesses of the most recent entry-point call, oldest first (R56, R61). Log 8. -/
  trace : List Access
  /-- The model's own: the host's remaining calls, oldest first (R304). Empty: `step()` for ever. Log 6. -/
  calls : List HostCall
  /-- The model's own: a `reset()` has been performed, so the CPU state is specified (R43). Log 7. -/
  live : Bool
  /-- The model's own: how many sentinel values `EA` has been given (the free value's counter). Log 3. -/
  sentinels : Nat
  deriving DecidableEq, Repr

/-- Reasons for a fault. There are none: "The core has no error/exception-returning operations" and no fault
of any kind (60_exceptions.md R270, 00_scope.md R11), so no step of the model can answer a fault. -/
inductive Fault where
  deriving DecidableEq, Repr

/-- Reasons for a refusal. -/
inductive Refusal where
  /-- Raised by `exec`'s arm of an instruction that has no meaning yet; no arm of this model raises it. Safe. -/
  | notModelled (mnemonic : String)
  /-- Raised by `hostCall` for `step()`, `triggerIRQ()` or `triggerNMI()` before the first `reset()`: outside
  the spec, "refuse it" (10_state.md R43, decision D16). Safe. -/
  | beforeReset
  deriving DecidableEq, Repr

/-- The machine right after `reset()` (R42, R300) over the memory that lists nothing: the vector bytes read as
`Config.unlistedByte`, so `PC` is 0x0000, and the call's two Bus reads are in `trace`. `mode`, `ea` and
`lastOpcode` are unspecified by the spec: DESIGN CHOICE, unsafe, log 4. -/
def State.reset : State where
  a := 0x00
  x := 0x00
  y := 0x00
  sp := Config.resetSP
  pc := 0x0000
  p := { n := false, v := false, d := false, i := true, z := false, c := false }
  mode := .imp
  ea := 0x0000
  cycles := Config.resetCycles
  lastOpcode := 0x00
  mem := []
  answers := []
  trace := [.read Config.resetVector Config.unlistedByte, .read (Config.resetVector + 1) Config.unlistedByte]
  calls := []
  live := true
  sentinels := 0

end Sys2Proof.Machine
end

