-- ==== Sys2Proof/Machine/Flags.lean ====
section
/-! DEFINITION. Every flag computation of the spec: N and Z from a byte (00_scope.md R10), the flags byte
(10_state.md R31, R32), the adder (42_arithmetic.md R150), the comparison (44_logic_compare_incdec.md R174), BIT
(R173) and the byte functions of the shifts (43_shift_rotate.md R161 to R164). -/

namespace Sys2Proof.Machine

/-- `SetNZ(v)`: N is bit 7, Z says that the byte is 0 (R10, R26, R33). -/
def setNZ (v : Byte) (p : Flags) : Flags := { p with n := v.getLsbD 7, z := v == 0 }

/-- A flag as the byte that has it at bit `k`. -/
def flagAt (f : Bool) (k : Nat) : Byte := if f then (1 : Byte) <<< k else 0

/-- `PackP()`: `NV10DIZC`, bit 5 always 1, bit 4 always 0 (R31, R30). -/
def packP (p : Flags) : Byte :=
  flagAt p.n 7 ||| flagAt p.v 6 ||| 0x20 ||| flagAt p.d 3 ||| flagAt p.i 2 ||| flagAt p.z 1 ||| flagAt p.c 0

/-- `UnpackP(b)`: bits 7 6 3 2 1 0; bits 5 and 4 are ignored (R32). -/
def unpackP (b : Byte) : Flags :=
  { n := b.getLsbD 7, v := b.getLsbD 6, d := b.getLsbD 3, i := b.getLsbD 2, z := b.getLsbD 1, c := b.getLsbD 0 }

/-- The flags byte as it is pushed, with the break marker at bit 4 (R31, R273). -/
def pushedP (breakMarker : Bool) (p : Flags) : Byte := packP p ||| flagAt breakMarker 4

/-- The "9-bit result" of the adder, an integer 0 to 511 (R150). -/
def addSum (a m : Byte) (c : Bool) : Nat := a.toNat + m.toNat + c.toNat

/-- The adder's byte result, `sum mod 256` (R150). -/
def addResult (a m : Byte) (c : Bool) : Byte := BitVec.ofNat 8 (addSum a m c)

/-- The adder's signed overflow, `~(A ^ m) & (A ^ r) & 0x80` not zero (R150). -/
def addOverflow (a m r : Byte) : Bool := (~~~(a ^^^ m) &&& (a ^^^ r) &&& 0x80) != 0

/-- The flags after the adder: C, V, then N and Z from the result. `P.D` is not consulted (R150, R154). -/
def addFlags (a m : Byte) (p : Flags) : Flags :=
  setNZ (addResult a m p.c)
    { p with c := decide (addSum a m p.c > 255), v := addOverflow a m (addResult a m p.c) }

/-- The operand the adder is given for a subtraction: "the one's-complement of the operand" (R152). -/
def subOperand (m : Byte) : Byte := m ^^^ 0xFF

/-- The flags after `Compare(reg, m)`: C says `reg >= m` unsigned, N and Z come from the difference (R174). -/
def compareFlags (reg m : Byte) (p : Flags) : Flags :=
  setNZ (reg - m) { p with c := decide (m.toNat ≤ reg.toNat) }

/-- The flags after BIT: Z from `A & m`, N and V from bits 7 and 6 of `m` (R173). -/
def bitFlags (a m : Byte) (p : Flags) : Flags :=
  { p with z := (a &&& m) == 0, n := m.getLsbD 7, v := m.getLsbD 6 }

/-- A shift's byte function: from the old carry and the byte, the new carry and the result. -/
abbrev ShiftFn := Bool → Byte → Bool × Byte

/-- ASL (R161). -/
def aslFn : ShiftFn := fun _ v => (v.getLsbD 7, v <<< 1)

/-- LSR (R162). -/
def lsrFn : ShiftFn := fun _ v => (v.getLsbD 0, v >>> 1)

/-- ROL: the old carry enters bit 0 (R163). -/
def rolFn : ShiftFn := fun c v => (v.getLsbD 7, v <<< 1 ||| flagAt c 0)

/-- ROR: the old carry enters bit 7 (R164). -/
def rorFn : ShiftFn := fun c v => (v.getLsbD 0, v >>> 1 ||| flagAt c 7)

end Sys2Proof.Machine
end

