-- ==== Sys2Proof/Machine/Ops.lean ====
section
/-! DEFINITION. The named operations over memory and registers: the flat RAM, the Bus accesses (20_memory.md R50
to R58), the register updates, the stack, and the ONE operation that takes an exception (60_exceptions.md R273,
R278), with the return from it beside it (R281). -/

namespace Sys2Proof.Machine

/-! ### The flat RAM -/

/-- What the RAM holds at address `a`; `Config.unlistedByte` where nothing is listed (R52). -/
def memRead : Memory → Nat → Byte
  | [], _ => Config.unlistedByte
  | (b, v) :: rest, a => if b = a then v else memRead rest a

/-- The RAM with `v` at address `a`, in canonical form: addresses stay sorted, and the value an unlisted address
reads as is not listed. -/
def memWrite : Memory → Nat → Byte → Memory
  | [], a, v => if v = Config.unlistedByte then [] else [(a, v)]
  | (b, w) :: rest, a, v =>
    if a < b then
      if v = Config.unlistedByte then (b, w) :: rest else (a, v) :: (b, w) :: rest
    else if a = b then
      if v = Config.unlistedByte then rest else (a, v) :: rest
    else
      (b, w) :: memWrite rest a v

/-- The canonical form: addresses strictly rising and inside the 65536-byte space (R51), and no entry equal to
what an unlisted address reads as. -/
abbrev Memory.wf (m : Memory) : Prop :=
  m.Pairwise (fun c d => c.1 < d.1) ∧ ∀ c ∈ m, c.1 < 65536 ∧ c.2 ≠ Config.unlistedByte

/-! ### Register updates -/

/-- `A <- v`. -/
def State.setA (s : State) (v : Byte) : State := { s with a := v }

/-- `X <- v`. -/
def State.setX (s : State) (v : Byte) : State := { s with x := v }

/-- `Y <- v`. -/
def State.setY (s : State) (v : Byte) : State := { s with y := v }

/-- `SP <- v`. -/
def State.setSP (s : State) (v : Byte) : State := { s with sp := v }

/-- `PC <- w`. -/
def State.setPC (s : State) (w : Word) : State := { s with pc := w }

/-- The flags become `p`. -/
def State.setP (s : State) (p : Flags) : State := { s with p := p }

/-- `CycleCounter <- CycleCounter + n`. -/
def State.addCycles (s : State) (n : Nat) : State := { s with cycles := s.cycles + n }

/-- An entry point begins: no Bus access has been made yet. -/
def State.beginCall (s : State) : State := { s with trace := [] }

/-! ### Bus accesses -/

/-- What the flat RAM holds at `a` (R52). -/
def State.byteAt (s : State) (a : Word) : Byte := memRead s.mem a.toNat

/-- What the Bus returns to a read of `a` that comes after `k` other reads and before any write: the host's answer to
that read, else what the flat RAM holds (R52). -/
def State.busByte (s : State) (k : Nat) (a : Word) : Byte := s.answers[k]?.join.getD (s.byteAt a)

/-- The state after a Bus read of `a` that returned `v`: the trace grows, and one answer is used. -/
def State.noteRead (s : State) (a : Word) (v : Byte) : State :=
  { s with trace := s.trace ++ [.read a v], answers := s.answers.drop 1 }

/-- `MemRead(a, 1)` (R50): the state after it; its value is `s.busByte 0 a`. -/
def State.busRead (s : State) (a : Word) : State := s.noteRead a (s.busByte 0 a)

/-- `MemWrite(a, 1, v)` (R50). -/
def State.busWrite (s : State) (a : Word) (v : Byte) : State :=
  { s with mem := memWrite s.mem a.toNat v, trace := s.trace ++ [.write a v] }

/-- `Read16(a)`'s value: low byte at `a`, then high byte at `a + 1` (R57). -/
def State.wordAt (s : State) (a : Word) : Word := joinBytes (s.busByte 1 (a + 1)) (s.busByte 0 a)

/-- `Read16(a)`'s accesses: the low byte is read first (R54, R57). -/
def State.busRead16 (s : State) (a : Word) : State := (s.busRead a).busRead (a + 1)

/-! ### The stack -/

/-- `0x0100 | sp`: the stack is page 1 (R22). -/
def stackAddr (sp : Byte) : Word := joinBytes 0x01 sp

/-- `Push(v)`: write, then decrement (R58, decision D4). -/
def State.push (s : State) (v : Byte) : State := (s.busWrite (stackAddr s.sp) v).setSP (s.sp - 1)

/-- `Push16(w)`: high byte, then low byte (R58). -/
def State.push16 (s : State) (w : Word) : State := (s.push (hi8 w)).push (lo8 w)

/-- `Pull()`'s value: the byte above `SP` (R58). -/
def State.pulled (s : State) : Byte := s.busByte 0 (stackAddr (s.sp + 1))

/-- `Pull()`: increment, then read (R58, decision D4). -/
def State.pull (s : State) : State := (s.setSP (s.sp + 1)).busRead (stackAddr (s.sp + 1))

/-- `Pull16()`'s value: the low byte is pulled first (R58). -/
def State.pulled16 (s : State) : Word := joinBytes s.pull.pulled s.pulled

/-- `Pull16()`. -/
def State.pull16 (s : State) : State := s.pull.pull

/-! ### Taking an exception and returning from it -/

/-- `PC <- Read16(vector)`. -/
def State.jumpVector (s : State) (vector : Word) : State := (s.busRead16 vector).setPC (s.wordAt vector)

/-- Taking an exception (BRK, IRQ, NMI: R214, R273, R274, R278, R279): push the return address (high, then
low), push the flags byte from before `P.I` is set with the break marker given, set `P.I`, and load `PC` from
the vector. Nothing else changes. -/
def takeException (ret : Word) (breakMarker : Bool) (vector : Word) (s : State) : State :=
  let s1 := s.push16 ret
  let s2 := s1.push (pushedP breakMarker s1.p)
  let s3 := s2.setP { s2.p with i := true }
  s3.jumpVector vector

/-- Returning from an exception (R215, R281): pull the flags byte (bits 5 and 4 ignored), then the return
address, low byte first, with nothing added. -/
def returnFromException (s : State) : State :=
  let s1 := s.pull.setP (unpackP s.pulled)
  s1.pull16.setPC s1.pulled16

end Sys2Proof.Machine
end

