-- ==== Sys2Proof/Machine/Operands.lean ====
section
/-! DEFINITION. The step's shared part: fetching the opcode (40_step_and_addressing.md R100), the thirteen
resolvers (R103 to R116), a handler's operand read, and `perform`, which runs one dispatch row. -/

namespace Sys2Proof.Machine

/-- The address after `z` in the zero page: `(z + 1) mod 256` (R110, R111). -/
def zpNext (z : Byte) : Word := zext16 (z + 1)

/-- The 16-bit pointer read from the zero page at `z` once the operand byte has been read, low byte first; both
bytes come from page 0 (R110, R111, decision D11). -/
def zpPointer (s : State) (z : Byte) : Word := joinBytes (s.busByte 2 (zpNext z)) (s.busByte 1 (zext16 z))

/-- Where the Indirect mode reads its high byte: `(ptr & 0xFF00) | ((ptr + 1) & 0xFF)` (R112). -/
def indNext (ptr : Word) : Word := joinBytes (hi8 ptr) (lo8 ptr + 1)

/-- The destination read through the pointer `ptr` once the two operand bytes have been read, low byte first, with
the page-wrap bug (R112). -/
def indTarget (s : State) (ptr : Word) : Word := joinBytes (s.busByte 3 (indNext ptr)) (s.busByte 2 ptr)

/-- The un-indexed base of the three modes that can grant the page-cross bonus (R102). -/
def indexBase (m : Mode) (o : Operand) (s : State) : Option Word :=
  match m with
  | .abx | .aby => some o.asWord
  | .izy => some (zpPointer s o.lo)
  | .abs | .acc | .imm | .imp | .izx | .ind | .rel | .zp | .zpx | .zpy => none

/-- The effective address of each mode (R104 to R116), in the state after the opcode fetch (`PC` is the address
of the first operand byte). Implied and Accumulator leave a sentinel, a free value (R38, log 3). -/
def effectiveAddress (m : Mode) (o : Operand) (s : State) : Word :=
  match m with
  | .abs => o.asWord
  | .abx => o.asWord + zext16 s.x
  | .aby => o.asWord + zext16 s.y
  | .acc => Config.eaSentinel s.sentinels
  | .imm => s.pc
  | .imp => Config.eaSentinel s.sentinels
  | .izx => zpPointer s (o.lo + s.x)
  | .izy => zpPointer s o.lo + zext16 s.y
  | .ind => indTarget s o.asWord
  | .rel => s.pc + 1 + sext16 o.lo
  | .zp => zext16 o.lo
  | .zpx => zext16 (o.lo + s.x)
  | .zpy => zext16 (o.lo + s.y)

/-- "adding the index crosses a page boundary relative to the un-indexed base" (R102). -/
def indexCrosses (m : Mode) (o : Operand) (s : State) : Bool :=
  match indexBase m o s with
  | some base => page (effectiveAddress m o s) != page base
  | none => false

/-- The bonus a resolver adds: that of a row whose page-cross flag is set, when indexing crosses (R100, R102). -/
def crossBonus (r : Row) (s : State) : Nat :=
  if r.cross && indexCrosses r.mode r.operand s then Config.pageCrossBonus else 0

/-- The Bus reads of each resolver, in order (R104 to R117). The operand bytes are read at `PC`; the Immediate
resolver reads nothing (R108). -/
def resolverReads (m : Mode) (o : Operand) (s : State) : List Access :=
  match m with
  | .imp | .acc | .imm => []
  | .zp | .zpx | .zpy | .rel => [.read s.pc o.lo]
  | .izx =>
    [.read s.pc o.lo, .read (zext16 (o.lo + s.x)) (s.busByte 1 (zext16 (o.lo + s.x))),
     .read (zpNext (o.lo + s.x)) (s.busByte 2 (zpNext (o.lo + s.x)))]
  | .izy =>
    [.read s.pc o.lo, .read (zext16 o.lo) (s.busByte 1 (zext16 o.lo)), .read (zpNext o.lo) (s.busByte 2 (zpNext o.lo))]
  | .abs | .abx | .aby => [.read s.pc o.lo, .read (s.pc + 1) o.hi]
  | .ind =>
    [.read s.pc o.lo, .read (s.pc + 1) o.hi, .read o.asWord (s.busByte 2 o.asWord),
     .read (indNext o.asWord) (s.busByte 3 (indNext o.asWord))]

/-- How many Bus reads the resolver makes (R117). -/
def resolverReadCount : Mode → Nat
  | .imp | .acc | .imm => 0
  | .zp | .zpx | .zpy | .rel => 1
  | .abs | .abx | .aby => 2
  | .izx | .izy => 3
  | .ind => 4

/-- How many sentinel values the resolver draws. -/
def sentinelDraws : Mode → Nat
  | .imp | .acc => 1
  | .abs | .abx | .aby | .imm | .izx | .izy | .ind | .rel | .zp | .zpx | .zpy => 0

/-- The opcode fetch (R100): one read at `PC`, `LastOpcode`, `PC + 1`, `CurrentMode`. -/
def fetchOpcode (r : Row) (s : State) : State :=
  { s with
    trace := [.read s.pc r.opcode]
    answers := s.answers.drop 1
    lastOpcode := r.opcode
    pc := s.pc + 1
    mode := r.mode }

/-- The resolver (R100, R103): it sets `EA`, advances `PC` past the operand bytes and may add the bonus. -/
def resolve (r : Row) (s : State) : State :=
  { s with
    ea := effectiveAddress r.mode r.operand s
    pc := s.pc + BitVec.ofNat 16 r.mode.operandBytes
    cycles := s.cycles + crossBonus r s
    trace := s.trace ++ resolverReads r.mode r.operand s
    answers := s.answers.drop (resolverReadCount r.mode)
    sentinels := s.sentinels + sentinelDraws r.mode }

/-- The value a handler's `MemRead(EA, 1)` returns. In Immediate mode `EA` is the address of the operand byte
itself (R108), which is the byte the instruction carries (log 11); in the other modes it is what the Bus returns. -/
def operandByte (o : Operand) (s : State) : Byte := if s.mode = .imm then o.lo else s.busByte 0 s.ea

/-- A handler's `MemRead(EA, 1)`: one Bus read of `EA`. -/
def readOperand (o : Operand) (s : State) : State := s.noteRead s.ea (operandByte o s)

/-- What a handler does, given the instruction's operand, to the state its resolver left. -/
abbrev Handler := Operand → State → State

/-- One instruction: fetch the opcode, resolve, run the handler, charge the base cost (R100). It always
completes. -/
def perform (i : Instr) (handler : Handler) (s : State) : Host.Outcome State Fault Refusal :=
  .next ((handler i.row.operand (resolve i.row (fetchOpcode i.row s))).addCycles i.row.base)

end Sys2Proof.Machine
end

