-- ==== Sys2Proof/Machine/Arithmetic.lean ====
section
/-! DEFINITION. ADC and SBC (42_arithmetic.md R150 to R154). The undocumented SBC alias 0xEB stands in Illegal.lean. -/

namespace Sys2Proof.Machine

/-- `AddWithCarry(m)` (R150): `A` becomes the byte result, N V Z C are written. Binary whatever `P.D` holds (R154). -/
def addWithCarry (m : Byte) (s : State) : State :=
  (s.setA (addResult s.a m s.p.c)).setP (addFlags s.a m s.p)

/-- ADC (R151). -/
def handleAdc : Handler := fun o s => addWithCarry (operandByte o s) (readOperand o s)

/-- SBC (R152): "equivalent to adding `operand ^ 0xFF`". -/
def handleSbc : Handler := fun o s => addWithCarry (subOperand (operandByte o s)) (readOperand o s)

/-! ### ADC -/

/-- 0x61 `ADC ($nn,X)` (R151). -/
def execAdcIzx (b : Byte) (s : State) : Host.Outcome State Fault Refusal := perform (.adcIzx b) handleAdc s

/-- 0x65 `ADC $nn` (R151). -/
def execAdcZp (b : Byte) (s : State) : Host.Outcome State Fault Refusal := perform (.adcZp b) handleAdc s

/-- 0x69 `ADC #$nn` (R151). -/
def execAdcImm (b : Byte) (s : State) : Host.Outcome State Fault Refusal := perform (.adcImm b) handleAdc s

/-- 0x6D `ADC $hhll` (R151). -/
def execAdcAbs (w : Word) (s : State) : Host.Outcome State Fault Refusal := perform (.adcAbs w) handleAdc s

/-- 0x71 `ADC ($nn),Y` (R151). -/
def execAdcIzy (b : Byte) (s : State) : Host.Outcome State Fault Refusal := perform (.adcIzy b) handleAdc s

/-- 0x75 `ADC $nn,X` (R151). -/
def execAdcZpx (b : Byte) (s : State) : Host.Outcome State Fault Refusal := perform (.adcZpx b) handleAdc s

/-- 0x79 `ADC $hhll,Y` (R151). -/
def execAdcAby (w : Word) (s : State) : Host.Outcome State Fault Refusal := perform (.adcAby w) handleAdc s

/-- 0x7D `ADC $hhll,X` (R151). -/
def execAdcAbx (w : Word) (s : State) : Host.Outcome State Fault Refusal := perform (.adcAbx w) handleAdc s

/-! ### SBC -/

/-- 0xE1 `SBC ($nn,X)` (R152). -/
def execSbcIzx (b : Byte) (s : State) : Host.Outcome State Fault Refusal := perform (.sbcIzx b) handleSbc s

/-- 0xE5 `SBC $nn` (R152). -/
def execSbcZp (b : Byte) (s : State) : Host.Outcome State Fault Refusal := perform (.sbcZp b) handleSbc s

/-- 0xE9 `SBC #$nn` (R152). -/
def execSbcImm (b : Byte) (s : State) : Host.Outcome State Fault Refusal := perform (.sbcImm b) handleSbc s

/-- 0xED `SBC $hhll` (R152). -/
def execSbcAbs (w : Word) (s : State) : Host.Outcome State Fault Refusal := perform (.sbcAbs w) handleSbc s

/-- 0xF1 `SBC ($nn),Y` (R152). -/
def execSbcIzy (b : Byte) (s : State) : Host.Outcome State Fault Refusal := perform (.sbcIzy b) handleSbc s

/-- 0xF5 `SBC $nn,X` (R152). -/
def execSbcZpx (b : Byte) (s : State) : Host.Outcome State Fault Refusal := perform (.sbcZpx b) handleSbc s

/-- 0xF9 `SBC $hhll,Y` (R152). -/
def execSbcAby (w : Word) (s : State) : Host.Outcome State Fault Refusal := perform (.sbcAby w) handleSbc s

/-- 0xFD `SBC $hhll,X` (R152). -/
def execSbcAbx (w : Word) (s : State) : Host.Outcome State Fault Refusal := perform (.sbcAbx w) handleSbc s

end Sys2Proof.Machine
end

