-- ==== Sys2Proof/Machine/Control.lean ====
section
/-! DEFINITION. Branches, jumps, calls and returns (45_branch_jump.md R190 to R202). -/

namespace Sys2Proof.Machine

/-- The cycles a taken branch adds: 1, and 1 more when the target is on another page than the next instruction
(`PC` here) (R190). -/
def takenCycles (s : State) : Nat :=
  Config.branchTaken + (if page s.ea = page s.pc then 0 else Config.branchOtherPage)

/-- `Branch(cond)` (R190): no flag is written; not taken, nothing happens. -/
def branch (cond : Bool) (s : State) : State := if cond then (s.addCycles (takenCycles s)).setPC s.ea else s

/-- BPL (R191). -/
def handleBpl : Handler := fun _ s => branch (!s.p.n) s

/-- BMI (R192). -/
def handleBmi : Handler := fun _ s => branch s.p.n s

/-- BVC (R193). -/
def handleBvc : Handler := fun _ s => branch (!s.p.v) s

/-- BVS (R194). -/
def handleBvs : Handler := fun _ s => branch s.p.v s

/-- BCC (R195). -/
def handleBcc : Handler := fun _ s => branch (!s.p.c) s

/-- BCS (R196). -/
def handleBcs : Handler := fun _ s => branch s.p.c s

/-- BNE (R197). -/
def handleBne : Handler := fun _ s => branch (!s.p.z) s

/-- BEQ (R198). -/
def handleBeq : Handler := fun _ s => branch s.p.z s

/-- JMP (R199): "simply assigns `PC`". -/
def handleJmp : Handler := fun _ s => s.setPC s.ea

/-- JSR (R200): pushes the address of its own third byte, high then low, and goes to `EA`. -/
def handleJsr : Handler := fun _ s => (s.push16 (s.pc - 1)).setPC s.ea

/-- RTS (R201): pulls a word, low byte first, and adds 1. -/
def handleRts : Handler := fun _ s => s.pull16.setPC (s.pulled16 + 1)

/-! ### BPL -/

/-- 0x10 `BPL target` (R191). -/
def execBpl (b : Byte) (s : State) : Host.Outcome State Fault Refusal := perform (.bpl b) handleBpl s

/-! ### BMI -/

/-- 0x30 `BMI target` (R192). -/
def execBmi (b : Byte) (s : State) : Host.Outcome State Fault Refusal := perform (.bmi b) handleBmi s

/-! ### BVC -/

/-- 0x50 `BVC target` (R193). -/
def execBvc (b : Byte) (s : State) : Host.Outcome State Fault Refusal := perform (.bvc b) handleBvc s

/-! ### BVS -/

/-- 0x70 `BVS target` (R194). -/
def execBvs (b : Byte) (s : State) : Host.Outcome State Fault Refusal := perform (.bvs b) handleBvs s

/-! ### BCC -/

/-- 0x90 `BCC target` (R195). -/
def execBcc (b : Byte) (s : State) : Host.Outcome State Fault Refusal := perform (.bcc b) handleBcc s

/-! ### BCS -/

/-- 0xB0 `BCS target` (R196). -/
def execBcs (b : Byte) (s : State) : Host.Outcome State Fault Refusal := perform (.bcs b) handleBcs s

/-! ### BNE -/

/-- 0xD0 `BNE target` (R197). -/
def execBne (b : Byte) (s : State) : Host.Outcome State Fault Refusal := perform (.bne b) handleBne s

/-! ### BEQ -/

/-- 0xF0 `BEQ target` (R198). -/
def execBeq (b : Byte) (s : State) : Host.Outcome State Fault Refusal := perform (.beq b) handleBeq s

/-! ### JMP -/

/-- 0x4C `JMP $hhll` (R199). -/
def execJmpAbs (w : Word) (s : State) : Host.Outcome State Fault Refusal := perform (.jmpAbs w) handleJmp s

/-- 0x6C `JMP ($hhll)` (R199). -/
def execJmpInd (w : Word) (s : State) : Host.Outcome State Fault Refusal := perform (.jmpInd w) handleJmp s

/-! ### JSR -/

/-- 0x20 `JSR $hhll` (R200). -/
def execJsrAbs (w : Word) (s : State) : Host.Outcome State Fault Refusal := perform (.jsrAbs w) handleJsr s

/-! ### RTS -/

/-- 0x60 `RTS` (R201). -/
def execRts (s : State) : Host.Outcome State Fault Refusal := perform .rts handleRts s

end Sys2Proof.Machine
end

