-- ==== Sys2Proof/Machine/LoadStore.lean ====
section
/-! DEFINITION. Load, store and transfer instructions (41_load_store_transfer.md R130 to R142). -/

namespace Sys2Proof.Machine

/-- LDA (R131): one read of `EA`, N and Z from the loaded value. -/
def handleLda : Handler := fun o s => ((readOperand o s).setA (operandByte o s)).setP (setNZ (operandByte o s) s.p)

/-- LDX (R132). -/
def handleLdx : Handler := fun o s => ((readOperand o s).setX (operandByte o s)).setP (setNZ (operandByte o s) s.p)

/-- LDY (R133). -/
def handleLdy : Handler := fun o s => ((readOperand o s).setY (operandByte o s)).setP (setNZ (operandByte o s) s.p)

/-- STA (R134): one write of `EA`, no read, no flag. -/
def handleSta : Handler := fun _ s => s.busWrite s.ea s.a

/-- STX (R135). -/
def handleStx : Handler := fun _ s => s.busWrite s.ea s.x

/-- STY (R136). -/
def handleSty : Handler := fun _ s => s.busWrite s.ea s.y

/-- TAX (R137). -/
def handleTax : Handler := fun _ s => (s.setX s.a).setP (setNZ s.a s.p)

/-- TAY (R138). -/
def handleTay : Handler := fun _ s => (s.setY s.a).setP (setNZ s.a s.p)

/-- TXA (R139). -/
def handleTxa : Handler := fun _ s => (s.setA s.x).setP (setNZ s.x s.p)

/-- TYA (R140). -/
def handleTya : Handler := fun _ s => (s.setA s.y).setP (setNZ s.y s.p)

/-- TSX (R141). -/
def handleTsx : Handler := fun _ s => (s.setX s.sp).setP (setNZ s.sp s.p)

/-- TXS (R142): no flag. -/
def handleTxs : Handler := fun _ s => s.setSP s.x

/-! ### LDA -/

/-- 0xA1 `LDA ($nn,X)` (R131). -/
def execLdaIzx (b : Byte) (s : State) : Host.Outcome State Fault Refusal := perform (.ldaIzx b) handleLda s

/-- 0xA5 `LDA $nn` (R131). -/
def execLdaZp (b : Byte) (s : State) : Host.Outcome State Fault Refusal := perform (.ldaZp b) handleLda s

/-- 0xA9 `LDA #$nn` (R131). -/
def execLdaImm (b : Byte) (s : State) : Host.Outcome State Fault Refusal := perform (.ldaImm b) handleLda s

/-- 0xAD `LDA $hhll` (R131). -/
def execLdaAbs (w : Word) (s : State) : Host.Outcome State Fault Refusal := perform (.ldaAbs w) handleLda s

/-- 0xB1 `LDA ($nn),Y` (R131). -/
def execLdaIzy (b : Byte) (s : State) : Host.Outcome State Fault Refusal := perform (.ldaIzy b) handleLda s

/-- 0xB5 `LDA $nn,X` (R131). -/
def execLdaZpx (b : Byte) (s : State) : Host.Outcome State Fault Refusal := perform (.ldaZpx b) handleLda s

/-- 0xB9 `LDA $hhll,Y` (R131). -/
def execLdaAby (w : Word) (s : State) : Host.Outcome State Fault Refusal := perform (.ldaAby w) handleLda s

/-- 0xBD `LDA $hhll,X` (R131). -/
def execLdaAbx (w : Word) (s : State) : Host.Outcome State Fault Refusal := perform (.ldaAbx w) handleLda s

/-! ### LDX -/

/-- 0xA2 `LDX #$nn` (R132). -/
def execLdxImm (b : Byte) (s : State) : Host.Outcome State Fault Refusal := perform (.ldxImm b) handleLdx s

/-- 0xA6 `LDX $nn` (R132). -/
def execLdxZp (b : Byte) (s : State) : Host.Outcome State Fault Refusal := perform (.ldxZp b) handleLdx s

/-- 0xAE `LDX $hhll` (R132). -/
def execLdxAbs (w : Word) (s : State) : Host.Outcome State Fault Refusal := perform (.ldxAbs w) handleLdx s

/-- 0xB6 `LDX $nn,Y` (R132). -/
def execLdxZpy (b : Byte) (s : State) : Host.Outcome State Fault Refusal := perform (.ldxZpy b) handleLdx s

/-- 0xBE `LDX $hhll,Y` (R132). -/
def execLdxAby (w : Word) (s : State) : Host.Outcome State Fault Refusal := perform (.ldxAby w) handleLdx s

/-! ### LDY -/

/-- 0xA0 `LDY #$nn` (R133). -/
def execLdyImm (b : Byte) (s : State) : Host.Outcome State Fault Refusal := perform (.ldyImm b) handleLdy s

/-- 0xA4 `LDY $nn` (R133). -/
def execLdyZp (b : Byte) (s : State) : Host.Outcome State Fault Refusal := perform (.ldyZp b) handleLdy s

/-- 0xAC `LDY $hhll` (R133). -/
def execLdyAbs (w : Word) (s : State) : Host.Outcome State Fault Refusal := perform (.ldyAbs w) handleLdy s

/-- 0xB4 `LDY $nn,X` (R133). -/
def execLdyZpx (b : Byte) (s : State) : Host.Outcome State Fault Refusal := perform (.ldyZpx b) handleLdy s

/-- 0xBC `LDY $hhll,X` (R133). -/
def execLdyAbx (w : Word) (s : State) : Host.Outcome State Fault Refusal := perform (.ldyAbx w) handleLdy s

/-! ### STA -/

/-- 0x81 `STA ($nn,X)` (R134). -/
def execStaIzx (b : Byte) (s : State) : Host.Outcome State Fault Refusal := perform (.staIzx b) handleSta s

/-- 0x85 `STA $nn` (R134). -/
def execStaZp (b : Byte) (s : State) : Host.Outcome State Fault Refusal := perform (.staZp b) handleSta s

/-- 0x8D `STA $hhll` (R134). -/
def execStaAbs (w : Word) (s : State) : Host.Outcome State Fault Refusal := perform (.staAbs w) handleSta s

/-- 0x91 `STA ($nn),Y` (R134). -/
def execStaIzy (b : Byte) (s : State) : Host.Outcome State Fault Refusal := perform (.staIzy b) handleSta s

/-- 0x95 `STA $nn,X` (R134). -/
def execStaZpx (b : Byte) (s : State) : Host.Outcome State Fault Refusal := perform (.staZpx b) handleSta s

/-- 0x99 `STA $hhll,Y` (R134). -/
def execStaAby (w : Word) (s : State) : Host.Outcome State Fault Refusal := perform (.staAby w) handleSta s

/-- 0x9D `STA $hhll,X` (R134). -/
def execStaAbx (w : Word) (s : State) : Host.Outcome State Fault Refusal := perform (.staAbx w) handleSta s

/-! ### STX -/

/-- 0x86 `STX $nn` (R135). -/
def execStxZp (b : Byte) (s : State) : Host.Outcome State Fault Refusal := perform (.stxZp b) handleStx s

/-- 0x8E `STX $hhll` (R135). -/
def execStxAbs (w : Word) (s : State) : Host.Outcome State Fault Refusal := perform (.stxAbs w) handleStx s

/-- 0x96 `STX $nn,Y` (R135). -/
def execStxZpy (b : Byte) (s : State) : Host.Outcome State Fault Refusal := perform (.stxZpy b) handleStx s

/-! ### STY -/

/-- 0x84 `STY $nn` (R136). -/
def execStyZp (b : Byte) (s : State) : Host.Outcome State Fault Refusal := perform (.styZp b) handleSty s

/-- 0x8C `STY $hhll` (R136). -/
def execStyAbs (w : Word) (s : State) : Host.Outcome State Fault Refusal := perform (.styAbs w) handleSty s

/-- 0x94 `STY $nn,X` (R136). -/
def execStyZpx (b : Byte) (s : State) : Host.Outcome State Fault Refusal := perform (.styZpx b) handleSty s

/-! ### TAX -/

/-- 0xAA `TAX` (R137). -/
def execTax (s : State) : Host.Outcome State Fault Refusal := perform .tax handleTax s

/-! ### TAY -/

/-- 0xA8 `TAY` (R138). -/
def execTay (s : State) : Host.Outcome State Fault Refusal := perform .tay handleTay s

/-! ### TXA -/

/-- 0x8A `TXA` (R139). -/
def execTxa (s : State) : Host.Outcome State Fault Refusal := perform .txa handleTxa s

/-! ### TYA -/

/-- 0x98 `TYA` (R140). -/
def execTya (s : State) : Host.Outcome State Fault Refusal := perform .tya handleTya s

/-! ### TSX -/

/-- 0xBA `TSX` (R141). -/
def execTsx (s : State) : Host.Outcome State Fault Refusal := perform .tsx handleTsx s

/-! ### TXS -/

/-- 0x9A `TXS` (R142). -/
def execTxs (s : State) : Host.Outcome State Fault Refusal := perform .txs handleTxs s

end Sys2Proof.Machine
end

