-- ==== Sys2Proof/Machine/Logic.lean ====
section
/-! DEFINITION. Logic, bit test, compare, increment and decrement instructions (44_logic_compare_incdec.md R170 to R183). -/

namespace Sys2Proof.Machine

/-- `A` becomes `v`, N and Z come from it. -/
def setANZ (v : Byte) (s : State) : State := (s.setA v).setP (setNZ v s.p)

/-- AND (R170). -/
def handleAnd : Handler := fun o s => setANZ (s.a &&& operandByte o s) (readOperand o s)

/-- ORA (R171). -/
def handleOra : Handler := fun o s => setANZ (s.a ||| operandByte o s) (readOperand o s)

/-- EOR (R172). -/
def handleEor : Handler := fun o s => setANZ (s.a ^^^ operandByte o s) (readOperand o s)

/-- BIT (R173): `A` is unchanged. -/
def handleBit : Handler := fun o s => (readOperand o s).setP (bitFlags s.a (operandByte o s) s.p)

/-- CMP (R175): no register changes. -/
def handleCmp : Handler := fun o s => (readOperand o s).setP (compareFlags s.a (operandByte o s) s.p)

/-- CPX (R176). -/
def handleCpx : Handler := fun o s => (readOperand o s).setP (compareFlags s.x (operandByte o s) s.p)

/-- CPY (R177). -/
def handleCpy : Handler := fun o s => (readOperand o s).setP (compareFlags s.y (operandByte o s) s.p)

/-- A read of `EA`, then a write of the byte that `f` makes of it, then N and Z from that byte (R178, R179). -/
def modifyMem (f : Byte → Byte) (s : State) : State :=
  ((s.busRead s.ea).busWrite s.ea (f (s.busByte 0 s.ea))).setP (setNZ (f (s.busByte 0 s.ea)) s.p)

/-- INC (R178). -/
def handleInc : Handler := fun _ s => modifyMem (· + 1) s

/-- DEC (R179). -/
def handleDec : Handler := fun _ s => modifyMem (· - 1) s

/-- INX (R180). -/
def handleInx : Handler := fun _ s => (s.setX (s.x + 1)).setP (setNZ (s.x + 1) s.p)

/-- INY (R181). -/
def handleIny : Handler := fun _ s => (s.setY (s.y + 1)).setP (setNZ (s.y + 1) s.p)

/-- DEX (R182). -/
def handleDex : Handler := fun _ s => (s.setX (s.x - 1)).setP (setNZ (s.x - 1) s.p)

/-- DEY (R183). -/
def handleDey : Handler := fun _ s => (s.setY (s.y - 1)).setP (setNZ (s.y - 1) s.p)

/-! ### AND -/

/-- 0x21 `AND ($nn,X)` (R170). -/
def execAndIzx (b : Byte) (s : State) : Host.Outcome State Fault Refusal := perform (.andIzx b) handleAnd s

/-- 0x25 `AND $nn` (R170). -/
def execAndZp (b : Byte) (s : State) : Host.Outcome State Fault Refusal := perform (.andZp b) handleAnd s

/-- 0x29 `AND #$nn` (R170). -/
def execAndImm (b : Byte) (s : State) : Host.Outcome State Fault Refusal := perform (.andImm b) handleAnd s

/-- 0x2D `AND $hhll` (R170). -/
def execAndAbs (w : Word) (s : State) : Host.Outcome State Fault Refusal := perform (.andAbs w) handleAnd s

/-- 0x31 `AND ($nn),Y` (R170). -/
def execAndIzy (b : Byte) (s : State) : Host.Outcome State Fault Refusal := perform (.andIzy b) handleAnd s

/-- 0x35 `AND $nn,X` (R170). -/
def execAndZpx (b : Byte) (s : State) : Host.Outcome State Fault Refusal := perform (.andZpx b) handleAnd s

/-- 0x39 `AND $hhll,Y` (R170). -/
def execAndAby (w : Word) (s : State) : Host.Outcome State Fault Refusal := perform (.andAby w) handleAnd s

/-- 0x3D `AND $hhll,X` (R170). -/
def execAndAbx (w : Word) (s : State) : Host.Outcome State Fault Refusal := perform (.andAbx w) handleAnd s

/-! ### ORA -/

/-- 0x01 `ORA ($nn,X)` (R171). -/
def execOraIzx (b : Byte) (s : State) : Host.Outcome State Fault Refusal := perform (.oraIzx b) handleOra s

/-- 0x05 `ORA $nn` (R171). -/
def execOraZp (b : Byte) (s : State) : Host.Outcome State Fault Refusal := perform (.oraZp b) handleOra s

/-- 0x09 `ORA #$nn` (R171). -/
def execOraImm (b : Byte) (s : State) : Host.Outcome State Fault Refusal := perform (.oraImm b) handleOra s

/-- 0x0D `ORA $hhll` (R171). -/
def execOraAbs (w : Word) (s : State) : Host.Outcome State Fault Refusal := perform (.oraAbs w) handleOra s

/-- 0x11 `ORA ($nn),Y` (R171). -/
def execOraIzy (b : Byte) (s : State) : Host.Outcome State Fault Refusal := perform (.oraIzy b) handleOra s

/-- 0x15 `ORA $nn,X` (R171). -/
def execOraZpx (b : Byte) (s : State) : Host.Outcome State Fault Refusal := perform (.oraZpx b) handleOra s

/-- 0x19 `ORA $hhll,Y` (R171). -/
def execOraAby (w : Word) (s : State) : Host.Outcome State Fault Refusal := perform (.oraAby w) handleOra s

/-- 0x1D `ORA $hhll,X` (R171). -/
def execOraAbx (w : Word) (s : State) : Host.Outcome State Fault Refusal := perform (.oraAbx w) handleOra s

/-! ### EOR -/

/-- 0x41 `EOR ($nn,X)` (R172). -/
def execEorIzx (b : Byte) (s : State) : Host.Outcome State Fault Refusal := perform (.eorIzx b) handleEor s

/-- 0x45 `EOR $nn` (R172). -/
def execEorZp (b : Byte) (s : State) : Host.Outcome State Fault Refusal := perform (.eorZp b) handleEor s

/-- 0x49 `EOR #$nn` (R172). -/
def execEorImm (b : Byte) (s : State) : Host.Outcome State Fault Refusal := perform (.eorImm b) handleEor s

/-- 0x4D `EOR $hhll` (R172). -/
def execEorAbs (w : Word) (s : State) : Host.Outcome State Fault Refusal := perform (.eorAbs w) handleEor s

/-- 0x51 `EOR ($nn),Y` (R172). -/
def execEorIzy (b : Byte) (s : State) : Host.Outcome State Fault Refusal := perform (.eorIzy b) handleEor s

/-- 0x55 `EOR $nn,X` (R172). -/
def execEorZpx (b : Byte) (s : State) : Host.Outcome State Fault Refusal := perform (.eorZpx b) handleEor s

/-- 0x59 `EOR $hhll,Y` (R172). -/
def execEorAby (w : Word) (s : State) : Host.Outcome State Fault Refusal := perform (.eorAby w) handleEor s

/-- 0x5D `EOR $hhll,X` (R172). -/
def execEorAbx (w : Word) (s : State) : Host.Outcome State Fault Refusal := perform (.eorAbx w) handleEor s

/-! ### BIT -/

/-- 0x24 `BIT $nn` (R173). -/
def execBitZp (b : Byte) (s : State) : Host.Outcome State Fault Refusal := perform (.bitZp b) handleBit s

/-- 0x2C `BIT $hhll` (R173). -/
def execBitAbs (w : Word) (s : State) : Host.Outcome State Fault Refusal := perform (.bitAbs w) handleBit s

/-! ### CMP -/

/-- 0xC1 `CMP ($nn,X)` (R175). -/
def execCmpIzx (b : Byte) (s : State) : Host.Outcome State Fault Refusal := perform (.cmpIzx b) handleCmp s

/-- 0xC5 `CMP $nn` (R175). -/
def execCmpZp (b : Byte) (s : State) : Host.Outcome State Fault Refusal := perform (.cmpZp b) handleCmp s

/-- 0xC9 `CMP #$nn` (R175). -/
def execCmpImm (b : Byte) (s : State) : Host.Outcome State Fault Refusal := perform (.cmpImm b) handleCmp s

/-- 0xCD `CMP $hhll` (R175). -/
def execCmpAbs (w : Word) (s : State) : Host.Outcome State Fault Refusal := perform (.cmpAbs w) handleCmp s

/-- 0xD1 `CMP ($nn),Y` (R175). -/
def execCmpIzy (b : Byte) (s : State) : Host.Outcome State Fault Refusal := perform (.cmpIzy b) handleCmp s

/-- 0xD5 `CMP $nn,X` (R175). -/
def execCmpZpx (b : Byte) (s : State) : Host.Outcome State Fault Refusal := perform (.cmpZpx b) handleCmp s

/-- 0xD9 `CMP $hhll,Y` (R175). -/
def execCmpAby (w : Word) (s : State) : Host.Outcome State Fault Refusal := perform (.cmpAby w) handleCmp s

/-- 0xDD `CMP $hhll,X` (R175). -/
def execCmpAbx (w : Word) (s : State) : Host.Outcome State Fault Refusal := perform (.cmpAbx w) handleCmp s

/-! ### CPX -/

/-- 0xE0 `CPX #$nn` (R176). -/
def execCpxImm (b : Byte) (s : State) : Host.Outcome State Fault Refusal := perform (.cpxImm b) handleCpx s

/-- 0xE4 `CPX $nn` (R176). -/
def execCpxZp (b : Byte) (s : State) : Host.Outcome State Fault Refusal := perform (.cpxZp b) handleCpx s

/-- 0xEC `CPX $hhll` (R176). -/
def execCpxAbs (w : Word) (s : State) : Host.Outcome State Fault Refusal := perform (.cpxAbs w) handleCpx s

/-! ### CPY -/

/-- 0xC0 `CPY #$nn` (R177). -/
def execCpyImm (b : Byte) (s : State) : Host.Outcome State Fault Refusal := perform (.cpyImm b) handleCpy s

/-- 0xC4 `CPY $nn` (R177). -/
def execCpyZp (b : Byte) (s : State) : Host.Outcome State Fault Refusal := perform (.cpyZp b) handleCpy s

/-- 0xCC `CPY $hhll` (R177). -/
def execCpyAbs (w : Word) (s : State) : Host.Outcome State Fault Refusal := perform (.cpyAbs w) handleCpy s

/-! ### INC -/

/-- 0xE6 `INC $nn` (R178). -/
def execIncZp (b : Byte) (s : State) : Host.Outcome State Fault Refusal := perform (.incZp b) handleInc s

/-- 0xEE `INC $hhll` (R178). -/
def execIncAbs (w : Word) (s : State) : Host.Outcome State Fault Refusal := perform (.incAbs w) handleInc s

/-- 0xF6 `INC $nn,X` (R178). -/
def execIncZpx (b : Byte) (s : State) : Host.Outcome State Fault Refusal := perform (.incZpx b) handleInc s

/-- 0xFE `INC $hhll,X` (R178). -/
def execIncAbx (w : Word) (s : State) : Host.Outcome State Fault Refusal := perform (.incAbx w) handleInc s

/-! ### DEC -/

/-- 0xC6 `DEC $nn` (R179). -/
def execDecZp (b : Byte) (s : State) : Host.Outcome State Fault Refusal := perform (.decZp b) handleDec s

/-- 0xCE `DEC $hhll` (R179). -/
def execDecAbs (w : Word) (s : State) : Host.Outcome State Fault Refusal := perform (.decAbs w) handleDec s

/-- 0xD6 `DEC $nn,X` (R179). -/
def execDecZpx (b : Byte) (s : State) : Host.Outcome State Fault Refusal := perform (.decZpx b) handleDec s

/-- 0xDE `DEC $hhll,X` (R179). -/
def execDecAbx (w : Word) (s : State) : Host.Outcome State Fault Refusal := perform (.decAbx w) handleDec s

/-! ### INX -/

/-- 0xE8 `INX` (R180). -/
def execInx (s : State) : Host.Outcome State Fault Refusal := perform .inx handleInx s

/-! ### INY -/

/-- 0xC8 `INY` (R181). -/
def execIny (s : State) : Host.Outcome State Fault Refusal := perform .iny handleIny s

/-! ### DEX -/

/-- 0xCA `DEX` (R182). -/
def execDex (s : State) : Host.Outcome State Fault Refusal := perform .dex handleDex s

/-! ### DEY -/

/-- 0x88 `DEY` (R183). -/
def execDey (s : State) : Host.Outcome State Fault Refusal := perform .dey handleDey s

end Sys2Proof.Machine
end

