-- ==== Sys2Proof/Machine/Shift.lean ====
section
/-! DEFINITION. Shift and rotate instructions (43_shift_rotate.md R160 to R164). -/

namespace Sys2Proof.Machine

/-- The flags a shift leaves: C is the bit shifted out, N and Z come from the result (R160). -/
def shiftFlags (out : Bool × Byte) (p : Flags) : Flags := setNZ out.2 { p with c := out.1 }

/-- The shift of `A` (R160, `CurrentMode` is Accumulator). -/
def shiftA (f : ShiftFn) (s : State) : State :=
  (s.setA (f s.p.c s.a).2).setP (shiftFlags (f s.p.c s.a) s.p)

/-- The shift of the memory byte at `EA`: one read, then one write (R160). -/
def shiftMem (f : ShiftFn) (s : State) : State :=
  ((s.busRead s.ea).busWrite s.ea (f s.p.c (s.busByte 0 s.ea)).2).setP (shiftFlags (f s.p.c (s.busByte 0 s.ea)) s.p)

/-- Operand selection, common to the four instructions: `CurrentMode` decides (R160, R37). -/
def handleShift (f : ShiftFn) : Handler := fun _ s => if s.mode = .acc then shiftA f s else shiftMem f s

/-! ### ASL -/

/-- 0x06 `ASL $nn` (R161). -/
def execAslZp (b : Byte) (s : State) : Host.Outcome State Fault Refusal := perform (.aslZp b) (handleShift aslFn) s

/-- 0x0A `ASL A` (R161). -/
def execAslAcc (s : State) : Host.Outcome State Fault Refusal := perform .aslAcc (handleShift aslFn) s

/-- 0x0E `ASL $hhll` (R161). -/
def execAslAbs (w : Word) (s : State) : Host.Outcome State Fault Refusal := perform (.aslAbs w) (handleShift aslFn) s

/-- 0x16 `ASL $nn,X` (R161). -/
def execAslZpx (b : Byte) (s : State) : Host.Outcome State Fault Refusal := perform (.aslZpx b) (handleShift aslFn) s

/-- 0x1E `ASL $hhll,X` (R161). -/
def execAslAbx (w : Word) (s : State) : Host.Outcome State Fault Refusal := perform (.aslAbx w) (handleShift aslFn) s

/-! ### LSR -/

/-- 0x46 `LSR $nn` (R162). -/
def execLsrZp (b : Byte) (s : State) : Host.Outcome State Fault Refusal := perform (.lsrZp b) (handleShift lsrFn) s

/-- 0x4A `LSR A` (R162). -/
def execLsrAcc (s : State) : Host.Outcome State Fault Refusal := perform .lsrAcc (handleShift lsrFn) s

/-- 0x4E `LSR $hhll` (R162). -/
def execLsrAbs (w : Word) (s : State) : Host.Outcome State Fault Refusal := perform (.lsrAbs w) (handleShift lsrFn) s

/-- 0x56 `LSR $nn,X` (R162). -/
def execLsrZpx (b : Byte) (s : State) : Host.Outcome State Fault Refusal := perform (.lsrZpx b) (handleShift lsrFn) s

/-- 0x5E `LSR $hhll,X` (R162). -/
def execLsrAbx (w : Word) (s : State) : Host.Outcome State Fault Refusal := perform (.lsrAbx w) (handleShift lsrFn) s

/-! ### ROL -/

/-- 0x26 `ROL $nn` (R163). -/
def execRolZp (b : Byte) (s : State) : Host.Outcome State Fault Refusal := perform (.rolZp b) (handleShift rolFn) s

/-- 0x2A `ROL A` (R163). -/
def execRolAcc (s : State) : Host.Outcome State Fault Refusal := perform .rolAcc (handleShift rolFn) s

/-- 0x2E `ROL $hhll` (R163). -/
def execRolAbs (w : Word) (s : State) : Host.Outcome State Fault Refusal := perform (.rolAbs w) (handleShift rolFn) s

/-- 0x36 `ROL $nn,X` (R163). -/
def execRolZpx (b : Byte) (s : State) : Host.Outcome State Fault Refusal := perform (.rolZpx b) (handleShift rolFn) s

/-- 0x3E `ROL $hhll,X` (R163). -/
def execRolAbx (w : Word) (s : State) : Host.Outcome State Fault Refusal := perform (.rolAbx w) (handleShift rolFn) s

/-! ### ROR -/

/-- 0x66 `ROR $nn` (R164). -/
def execRorZp (b : Byte) (s : State) : Host.Outcome State Fault Refusal := perform (.rorZp b) (handleShift rorFn) s

/-- 0x6A `ROR A` (R164). -/
def execRorAcc (s : State) : Host.Outcome State Fault Refusal := perform .rorAcc (handleShift rorFn) s

/-- 0x6E `ROR $hhll` (R164). -/
def execRorAbs (w : Word) (s : State) : Host.Outcome State Fault Refusal := perform (.rorAbs w) (handleShift rorFn) s

/-- 0x76 `ROR $nn,X` (R164). -/
def execRorZpx (b : Byte) (s : State) : Host.Outcome State Fault Refusal := perform (.rorZpx b) (handleShift rorFn) s

/-- 0x7E `ROR $hhll,X` (R164). -/
def execRorAbx (w : Word) (s : State) : Host.Outcome State Fault Refusal := perform (.rorAbx w) (handleShift rorFn) s

end Sys2Proof.Machine
end

