-- ==== Sys2Proof/Machine/System.lean ====
section
/-! DEFINITION. Stack, system and flag instructions (46_stack_system_flags.md R210 to R223). -/

namespace Sys2Proof.Machine

/-- PHA (R210). -/
def handlePha : Handler := fun _ s => s.push s.a

/-- PLA (R211): N and Z from the pulled byte. -/
def handlePla : Handler := fun _ s => (s.pull.setA s.pulled).setP (setNZ s.pulled s.p)

/-- PHP (R212): the break marker is forced on the pushed byte. -/
def handlePhp : Handler := fun _ s => s.push (pushedP true s.p)

/-- PLP (R213). -/
def handlePlp : Handler := fun _ s => s.pull.setP (unpackP s.pulled)

/-- BRK (R214): takes the exception through the IRQ vector; the pushed address is BRK's own + 2 (`BRK_PAD`). -/
def handleBrk : Handler := fun _ s => takeException (s.pc + Config.brkPad) true Config.irqVector s

/-- RTI (R215). -/
def handleRti : Handler := fun _ s => returnFromException s

/-- The handler that does nothing: NOP (R216), the placeholders (R245), the undocumented NOPs (R260), KIL (R264). -/
def handleNothing : Handler := fun _ s => s

/-- CLC (R217). -/
def handleClc : Handler := fun _ s => s.setP { s.p with c := false }

/-- SEC (R218). -/
def handleSec : Handler := fun _ s => s.setP { s.p with c := true }

/-- CLI (R219). -/
def handleCli : Handler := fun _ s => s.setP { s.p with i := false }

/-- SEI (R220). -/
def handleSei : Handler := fun _ s => s.setP { s.p with i := true }

/-- CLV (R221). -/
def handleClv : Handler := fun _ s => s.setP { s.p with v := false }

/-- CLD (R222). -/
def handleCld : Handler := fun _ s => s.setP { s.p with d := false }

/-- SED (R223). -/
def handleSed : Handler := fun _ s => s.setP { s.p with d := true }

/-! ### PHA -/

/-- 0x48 `PHA` (R210). -/
def execPha (s : State) : Host.Outcome State Fault Refusal := perform .pha handlePha s

/-! ### PLA -/

/-- 0x68 `PLA` (R211). -/
def execPla (s : State) : Host.Outcome State Fault Refusal := perform .pla handlePla s

/-! ### PHP -/

/-- 0x08 `PHP` (R212). -/
def execPhp (s : State) : Host.Outcome State Fault Refusal := perform .php handlePhp s

/-! ### PLP -/

/-- 0x28 `PLP` (R213). -/
def execPlp (s : State) : Host.Outcome State Fault Refusal := perform .plp handlePlp s

/-! ### BRK -/

/-- 0x00 `BRK` (R214). -/
def execBrk (s : State) : Host.Outcome State Fault Refusal := perform .brk handleBrk s

/-! ### RTI -/

/-- 0x40 `RTI` (R215). -/
def execRti (s : State) : Host.Outcome State Fault Refusal := perform .rti handleRti s

/-! ### NOP -/

/-- 0xEA `NOP` (R216). -/
def execNop (s : State) : Host.Outcome State Fault Refusal := perform .nop handleNothing s

/-! ### CLC -/

/-- 0x18 `CLC` (R217). -/
def execClc (s : State) : Host.Outcome State Fault Refusal := perform .clc handleClc s

/-! ### SEC -/

/-- 0x38 `SEC` (R218). -/
def execSec (s : State) : Host.Outcome State Fault Refusal := perform .sec handleSec s

/-! ### CLI -/

/-- 0x58 `CLI` (R219). -/
def execCli (s : State) : Host.Outcome State Fault Refusal := perform .cli handleCli s

/-! ### SEI -/

/-- 0x78 `SEI` (R220). -/
def execSei (s : State) : Host.Outcome State Fault Refusal := perform .sei handleSei s

/-! ### CLV -/

/-- 0xB8 `CLV` (R221). -/
def execClv (s : State) : Host.Outcome State Fault Refusal := perform .clv handleClv s

/-! ### CLD -/

/-- 0xD8 `CLD` (R222). -/
def execCld (s : State) : Host.Outcome State Fault Refusal := perform .cld handleCld s

/-! ### SED -/

/-- 0xF8 `SED` (R223). -/
def execSed (s : State) : Host.Outcome State Fault Refusal := perform .sed handleSed s

end Sys2Proof.Machine
end

