-- ==== Sys2Proof/Machine/Illegal.lean ====
section
/-! DEFINITION. The undocumented opcodes (47_illegal.md R235 to R264). -/

namespace Sys2Proof.Machine

/-- A read-modify-write composite: the first handler on memory, then the second, which reads `EA` again (R236,
decision D12). -/
def composite (first second : Handler) : Handler := fun o s => second o (first o s)

/-- SLO = ASL + ORA (R237). -/
def handleSlo : Handler := composite (handleShift aslFn) handleOra

/-- RLA = ROL + AND (R238). -/
def handleRla : Handler := composite (handleShift rolFn) handleAnd

/-- SRE = LSR + EOR (R239). -/
def handleSre : Handler := composite (handleShift lsrFn) handleEor

/-- RRA = ROR + ADC (R240): the rotate's carry is the addition's carry-in. -/
def handleRra : Handler := composite (handleShift rorFn) handleAdc

/-- DCP = DEC + CMP (R241). -/
def handleDcp : Handler := composite handleDec handleCmp

/-- ISC = INC + SBC (R242). -/
def handleIsc : Handler := composite handleInc handleSbc

/-- LAX (R243): one read, both `A` and `X` get the byte. -/
def handleLax : Handler := fun o s =>
  (((readOperand o s).setA (operandByte o s)).setX (operandByte o s)).setP (setNZ (operandByte o s) s.p)

/-- SAX (R244): writes `A & X`; no read, no flag. -/
def handleSax : Handler := fun _ s => s.busWrite s.ea (s.a &&& s.x)

/-! ### SLO -/

/-- 0x03 `SLO ($nn,X)` (R237). -/
def execSloIzx (b : Byte) (s : State) : Host.Outcome State Fault Refusal := perform (.sloIzx b) handleSlo s

/-- 0x07 `SLO $nn` (R237). -/
def execSloZp (b : Byte) (s : State) : Host.Outcome State Fault Refusal := perform (.sloZp b) handleSlo s

/-- 0x0F `SLO $hhll` (R237). -/
def execSloAbs (w : Word) (s : State) : Host.Outcome State Fault Refusal := perform (.sloAbs w) handleSlo s

/-- 0x13 `SLO ($nn),Y` (R237). -/
def execSloIzy (b : Byte) (s : State) : Host.Outcome State Fault Refusal := perform (.sloIzy b) handleSlo s

/-- 0x17 `SLO $nn,X` (R237). -/
def execSloZpx (b : Byte) (s : State) : Host.Outcome State Fault Refusal := perform (.sloZpx b) handleSlo s

/-- 0x1B `SLO $hhll,Y` (R237). -/
def execSloAby (w : Word) (s : State) : Host.Outcome State Fault Refusal := perform (.sloAby w) handleSlo s

/-- 0x1F `SLO $hhll,X` (R237). -/
def execSloAbx (w : Word) (s : State) : Host.Outcome State Fault Refusal := perform (.sloAbx w) handleSlo s

/-! ### RLA -/

/-- 0x23 `RLA ($nn,X)` (R238). -/
def execRlaIzx (b : Byte) (s : State) : Host.Outcome State Fault Refusal := perform (.rlaIzx b) handleRla s

/-- 0x27 `RLA $nn` (R238). -/
def execRlaZp (b : Byte) (s : State) : Host.Outcome State Fault Refusal := perform (.rlaZp b) handleRla s

/-- 0x2F `RLA $hhll` (R238). -/
def execRlaAbs (w : Word) (s : State) : Host.Outcome State Fault Refusal := perform (.rlaAbs w) handleRla s

/-- 0x33 `RLA ($nn),Y` (R238). -/
def execRlaIzy (b : Byte) (s : State) : Host.Outcome State Fault Refusal := perform (.rlaIzy b) handleRla s

/-- 0x37 `RLA $nn,X` (R238). -/
def execRlaZpx (b : Byte) (s : State) : Host.Outcome State Fault Refusal := perform (.rlaZpx b) handleRla s

/-- 0x3B `RLA $hhll,Y` (R238). -/
def execRlaAby (w : Word) (s : State) : Host.Outcome State Fault Refusal := perform (.rlaAby w) handleRla s

/-- 0x3F `RLA $hhll,X` (R238). -/
def execRlaAbx (w : Word) (s : State) : Host.Outcome State Fault Refusal := perform (.rlaAbx w) handleRla s

/-! ### SRE -/

/-- 0x43 `SRE ($nn,X)` (R239). -/
def execSreIzx (b : Byte) (s : State) : Host.Outcome State Fault Refusal := perform (.sreIzx b) handleSre s

/-- 0x47 `SRE $nn` (R239). -/
def execSreZp (b : Byte) (s : State) : Host.Outcome State Fault Refusal := perform (.sreZp b) handleSre s

/-- 0x4F `SRE $hhll` (R239). -/
def execSreAbs (w : Word) (s : State) : Host.Outcome State Fault Refusal := perform (.sreAbs w) handleSre s

/-- 0x53 `SRE ($nn),Y` (R239). -/
def execSreIzy (b : Byte) (s : State) : Host.Outcome State Fault Refusal := perform (.sreIzy b) handleSre s

/-- 0x57 `SRE $nn,X` (R239). -/
def execSreZpx (b : Byte) (s : State) : Host.Outcome State Fault Refusal := perform (.sreZpx b) handleSre s

/-- 0x5B `SRE $hhll,Y` (R239). -/
def execSreAby (w : Word) (s : State) : Host.Outcome State Fault Refusal := perform (.sreAby w) handleSre s

/-- 0x5F `SRE $hhll,X` (R239). -/
def execSreAbx (w : Word) (s : State) : Host.Outcome State Fault Refusal := perform (.sreAbx w) handleSre s

/-! ### RRA -/

/-- 0x63 `RRA ($nn,X)` (R240). -/
def execRraIzx (b : Byte) (s : State) : Host.Outcome State Fault Refusal := perform (.rraIzx b) handleRra s

/-- 0x67 `RRA $nn` (R240). -/
def execRraZp (b : Byte) (s : State) : Host.Outcome State Fault Refusal := perform (.rraZp b) handleRra s

/-- 0x6F `RRA $hhll` (R240). -/
def execRraAbs (w : Word) (s : State) : Host.Outcome State Fault Refusal := perform (.rraAbs w) handleRra s

/-- 0x73 `RRA ($nn),Y` (R240). -/
def execRraIzy (b : Byte) (s : State) : Host.Outcome State Fault Refusal := perform (.rraIzy b) handleRra s

/-- 0x77 `RRA $nn,X` (R240). -/
def execRraZpx (b : Byte) (s : State) : Host.Outcome State Fault Refusal := perform (.rraZpx b) handleRra s

/-- 0x7B `RRA $hhll,Y` (R240). -/
def execRraAby (w : Word) (s : State) : Host.Outcome State Fault Refusal := perform (.rraAby w) handleRra s

/-- 0x7F `RRA $hhll,X` (R240). -/
def execRraAbx (w : Word) (s : State) : Host.Outcome State Fault Refusal := perform (.rraAbx w) handleRra s

/-! ### DCP -/

/-- 0xC3 `DCP ($nn,X)` (R241). -/
def execDcpIzx (b : Byte) (s : State) : Host.Outcome State Fault Refusal := perform (.dcpIzx b) handleDcp s

/-- 0xC7 `DCP $nn` (R241). -/
def execDcpZp (b : Byte) (s : State) : Host.Outcome State Fault Refusal := perform (.dcpZp b) handleDcp s

/-- 0xCF `DCP $hhll` (R241). -/
def execDcpAbs (w : Word) (s : State) : Host.Outcome State Fault Refusal := perform (.dcpAbs w) handleDcp s

/-- 0xD3 `DCP ($nn),Y` (R241). -/
def execDcpIzy (b : Byte) (s : State) : Host.Outcome State Fault Refusal := perform (.dcpIzy b) handleDcp s

/-- 0xD7 `DCP $nn,X` (R241). -/
def execDcpZpx (b : Byte) (s : State) : Host.Outcome State Fault Refusal := perform (.dcpZpx b) handleDcp s

/-- 0xDB `DCP $hhll,Y` (R241). -/
def execDcpAby (w : Word) (s : State) : Host.Outcome State Fault Refusal := perform (.dcpAby w) handleDcp s

/-- 0xDF `DCP $hhll,X` (R241). -/
def execDcpAbx (w : Word) (s : State) : Host.Outcome State Fault Refusal := perform (.dcpAbx w) handleDcp s

/-! ### ISC -/

/-- 0xE3 `ISC ($nn,X)` (R242). -/
def execIscIzx (b : Byte) (s : State) : Host.Outcome State Fault Refusal := perform (.iscIzx b) handleIsc s

/-- 0xE7 `ISC $nn` (R242). -/
def execIscZp (b : Byte) (s : State) : Host.Outcome State Fault Refusal := perform (.iscZp b) handleIsc s

/-- 0xEF `ISC $hhll` (R242). -/
def execIscAbs (w : Word) (s : State) : Host.Outcome State Fault Refusal := perform (.iscAbs w) handleIsc s

/-- 0xF3 `ISC ($nn),Y` (R242). -/
def execIscIzy (b : Byte) (s : State) : Host.Outcome State Fault Refusal := perform (.iscIzy b) handleIsc s

/-- 0xF7 `ISC $nn,X` (R242). -/
def execIscZpx (b : Byte) (s : State) : Host.Outcome State Fault Refusal := perform (.iscZpx b) handleIsc s

/-- 0xFB `ISC $hhll,Y` (R242). -/
def execIscAby (w : Word) (s : State) : Host.Outcome State Fault Refusal := perform (.iscAby w) handleIsc s

/-- 0xFF `ISC $hhll,X` (R242). -/
def execIscAbx (w : Word) (s : State) : Host.Outcome State Fault Refusal := perform (.iscAbx w) handleIsc s

/-! ### LAX -/

/-- 0xA3 `LAX ($nn,X)` (R243). -/
def execLaxIzx (b : Byte) (s : State) : Host.Outcome State Fault Refusal := perform (.laxIzx b) handleLax s

/-- 0xA7 `LAX $nn` (R243). -/
def execLaxZp (b : Byte) (s : State) : Host.Outcome State Fault Refusal := perform (.laxZp b) handleLax s

/-- 0xAB `LAX #$nn` (R243). -/
def execLaxImm (b : Byte) (s : State) : Host.Outcome State Fault Refusal := perform (.laxImm b) handleLax s

/-- 0xAF `LAX $hhll` (R243). -/
def execLaxAbs (w : Word) (s : State) : Host.Outcome State Fault Refusal := perform (.laxAbs w) handleLax s

/-- 0xB3 `LAX ($nn),Y` (R243). -/
def execLaxIzy (b : Byte) (s : State) : Host.Outcome State Fault Refusal := perform (.laxIzy b) handleLax s

/-- 0xB7 `LAX $nn,Y` (R243). -/
def execLaxZpy (b : Byte) (s : State) : Host.Outcome State Fault Refusal := perform (.laxZpy b) handleLax s

/-- 0xBF `LAX $hhll,Y` (R243). -/
def execLaxAby (w : Word) (s : State) : Host.Outcome State Fault Refusal := perform (.laxAby w) handleLax s

/-! ### SAX -/

/-- 0x83 `SAX ($nn,X)` (R244). -/
def execSaxIzx (b : Byte) (s : State) : Host.Outcome State Fault Refusal := perform (.saxIzx b) handleSax s

/-- 0x87 `SAX $nn` (R244). -/
def execSaxZp (b : Byte) (s : State) : Host.Outcome State Fault Refusal := perform (.saxZp b) handleSax s

/-- 0x8F `SAX $hhll` (R244). -/
def execSaxAbs (w : Word) (s : State) : Host.Outcome State Fault Refusal := perform (.saxAbs w) handleSax s

/-- 0x97 `SAX $nn,Y` (R244). -/
def execSaxZpy (b : Byte) (s : State) : Host.Outcome State Fault Refusal := perform (.saxZpy b) handleSax s

/-! ### ANC, a placeholder (R245) -/

/-- 0x0B `ANC #$nn` (R246). -/
def execAncImm0B (b : Byte) (s : State) : Host.Outcome State Fault Refusal := perform (.ancImm0B b) handleNothing s

/-- 0x2B `ANC #$nn` (R246). -/
def execAncImm2B (b : Byte) (s : State) : Host.Outcome State Fault Refusal := perform (.ancImm2B b) handleNothing s

/-! ### ALR, a placeholder (R245) -/

/-- 0x4B `ALR #$nn` (R247). -/
def execAlrImm (b : Byte) (s : State) : Host.Outcome State Fault Refusal := perform (.alrImm b) handleNothing s

/-! ### ARR, a placeholder (R245) -/

/-- 0x6B `ARR #$nn` (R248). -/
def execArrImm (b : Byte) (s : State) : Host.Outcome State Fault Refusal := perform (.arrImm b) handleNothing s

/-! ### XAA, a placeholder (R245) -/

/-- 0x8B `XAA #$nn` (R249). -/
def execXaaImm (b : Byte) (s : State) : Host.Outcome State Fault Refusal := perform (.xaaImm b) handleNothing s

/-! ### AXS, a placeholder (R245) -/

/-- 0xCB `AXS #$nn` (R250). -/
def execAxsImm (b : Byte) (s : State) : Host.Outcome State Fault Refusal := perform (.axsImm b) handleNothing s

/-! ### TAS, a placeholder (R245) -/

/-- 0x9B `TAS $hhll,Y` (R251). -/
def execTasAby (w : Word) (s : State) : Host.Outcome State Fault Refusal := perform (.tasAby w) handleNothing s

/-! ### SHY, a placeholder (R245) -/

/-- 0x9C `SHY $hhll,X` (R252). -/
def execShyAbx (w : Word) (s : State) : Host.Outcome State Fault Refusal := perform (.shyAbx w) handleNothing s

/-! ### SHX, a placeholder (R245) -/

/-- 0x9E `SHX $hhll,Y` (R253). -/
def execShxAby (w : Word) (s : State) : Host.Outcome State Fault Refusal := perform (.shxAby w) handleNothing s

/-! ### AHX, a placeholder (R245) -/

/-- 0x93 `AHX ($nn),Y` (R254). -/
def execAhxIzy (b : Byte) (s : State) : Host.Outcome State Fault Refusal := perform (.ahxIzy b) handleNothing s

/-- 0x9F `AHX $hhll,Y` (R254). -/
def execAhxAby (w : Word) (s : State) : Host.Outcome State Fault Refusal := perform (.ahxAby w) handleNothing s

/-! ### LAS, a placeholder (R245) -/

/-- 0xBB `LAS $hhll,Y` (R255). -/
def execLasAby (w : Word) (s : State) : Host.Outcome State Fault Refusal := perform (.lasAby w) handleNothing s

/-! ### The 27 undocumented NOPs -/

/-- 0x04 `NOP $nn` (R260). -/
def execNopZp04 (b : Byte) (s : State) : Host.Outcome State Fault Refusal := perform (.nopZp04 b) handleNothing s

/-- 0x0C `NOP $hhll` (R260). -/
def execNopAbs0C (w : Word) (s : State) : Host.Outcome State Fault Refusal := perform (.nopAbs0C w) handleNothing s

/-- 0x14 `NOP $nn,X` (R260). -/
def execNopZpx14 (b : Byte) (s : State) : Host.Outcome State Fault Refusal := perform (.nopZpx14 b) handleNothing s

/-- 0x1A `NOP` (R260). -/
def execNopImp1A (s : State) : Host.Outcome State Fault Refusal := perform .nopImp1A handleNothing s

/-- 0x1C `NOP $hhll,X` (R260). -/
def execNopAbx1C (w : Word) (s : State) : Host.Outcome State Fault Refusal := perform (.nopAbx1C w) handleNothing s

/-- 0x34 `NOP $nn,X` (R260). -/
def execNopZpx34 (b : Byte) (s : State) : Host.Outcome State Fault Refusal := perform (.nopZpx34 b) handleNothing s

/-- 0x3A `NOP` (R260). -/
def execNopImp3A (s : State) : Host.Outcome State Fault Refusal := perform .nopImp3A handleNothing s

/-- 0x3C `NOP $hhll,X` (R260). -/
def execNopAbx3C (w : Word) (s : State) : Host.Outcome State Fault Refusal := perform (.nopAbx3C w) handleNothing s

/-- 0x44 `NOP $nn` (R260). -/
def execNopZp44 (b : Byte) (s : State) : Host.Outcome State Fault Refusal := perform (.nopZp44 b) handleNothing s

/-- 0x54 `NOP $nn,X` (R260). -/
def execNopZpx54 (b : Byte) (s : State) : Host.Outcome State Fault Refusal := perform (.nopZpx54 b) handleNothing s

/-- 0x5A `NOP` (R260). -/
def execNopImp5A (s : State) : Host.Outcome State Fault Refusal := perform .nopImp5A handleNothing s

/-- 0x5C `NOP $hhll,X` (R260). -/
def execNopAbx5C (w : Word) (s : State) : Host.Outcome State Fault Refusal := perform (.nopAbx5C w) handleNothing s

/-- 0x64 `NOP $nn` (R260). -/
def execNopZp64 (b : Byte) (s : State) : Host.Outcome State Fault Refusal := perform (.nopZp64 b) handleNothing s

/-- 0x74 `NOP $nn,X` (R260). -/
def execNopZpx74 (b : Byte) (s : State) : Host.Outcome State Fault Refusal := perform (.nopZpx74 b) handleNothing s

/-- 0x7A `NOP` (R260). -/
def execNopImp7A (s : State) : Host.Outcome State Fault Refusal := perform .nopImp7A handleNothing s

/-- 0x7C `NOP $hhll,X` (R260). -/
def execNopAbx7C (w : Word) (s : State) : Host.Outcome State Fault Refusal := perform (.nopAbx7C w) handleNothing s

/-- 0x80 `NOP #$nn` (R260). -/
def execNopImm80 (b : Byte) (s : State) : Host.Outcome State Fault Refusal := perform (.nopImm80 b) handleNothing s

/-- 0x82 `NOP #$nn` (R260). -/
def execNopImm82 (b : Byte) (s : State) : Host.Outcome State Fault Refusal := perform (.nopImm82 b) handleNothing s

/-- 0x89 `NOP #$nn` (R260). -/
def execNopImm89 (b : Byte) (s : State) : Host.Outcome State Fault Refusal := perform (.nopImm89 b) handleNothing s

/-- 0xC2 `NOP #$nn` (R260). -/
def execNopImmC2 (b : Byte) (s : State) : Host.Outcome State Fault Refusal := perform (.nopImmC2 b) handleNothing s

/-- 0xD4 `NOP $nn,X` (R260). -/
def execNopZpxD4 (b : Byte) (s : State) : Host.Outcome State Fault Refusal := perform (.nopZpxD4 b) handleNothing s

/-- 0xDA `NOP` (R260). -/
def execNopImpDA (s : State) : Host.Outcome State Fault Refusal := perform .nopImpDA handleNothing s

/-- 0xDC `NOP $hhll,X` (R260). -/
def execNopAbxDC (w : Word) (s : State) : Host.Outcome State Fault Refusal := perform (.nopAbxDC w) handleNothing s

/-- 0xE2 `NOP #$nn` (R260). -/
def execNopImmE2 (b : Byte) (s : State) : Host.Outcome State Fault Refusal := perform (.nopImmE2 b) handleNothing s

/-- 0xF4 `NOP $nn,X` (R260). -/
def execNopZpxF4 (b : Byte) (s : State) : Host.Outcome State Fault Refusal := perform (.nopZpxF4 b) handleNothing s

/-- 0xFA `NOP` (R260). -/
def execNopImpFA (s : State) : Host.Outcome State Fault Refusal := perform .nopImpFA handleNothing s

/-- 0xFC `NOP $hhll,X` (R260). -/
def execNopAbxFC (w : Word) (s : State) : Host.Outcome State Fault Refusal := perform (.nopAbxFC w) handleNothing s

/-! ### The SBC alias -/

/-- 0xEB `SBC #$nn` (R262). -/
def execSbcImmEB (b : Byte) (s : State) : Host.Outcome State Fault Refusal := perform (.sbcImmEB b) handleSbc s

/-! ### KIL: no halt (R264) -/

/-- 0x02 `KIL` (R264). -/
def execKil02 (s : State) : Host.Outcome State Fault Refusal := perform .kil02 handleNothing s

/-- 0x12 `KIL` (R264). -/
def execKil12 (s : State) : Host.Outcome State Fault Refusal := perform .kil12 handleNothing s

/-- 0x22 `KIL` (R264). -/
def execKil22 (s : State) : Host.Outcome State Fault Refusal := perform .kil22 handleNothing s

/-- 0x32 `KIL` (R264). -/
def execKil32 (s : State) : Host.Outcome State Fault Refusal := perform .kil32 handleNothing s

/-- 0x42 `KIL` (R264). -/
def execKil42 (s : State) : Host.Outcome State Fault Refusal := perform .kil42 handleNothing s

/-- 0x52 `KIL` (R264). -/
def execKil52 (s : State) : Host.Outcome State Fault Refusal := perform .kil52 handleNothing s

/-- 0x62 `KIL` (R264). -/
def execKil62 (s : State) : Host.Outcome State Fault Refusal := perform .kil62 handleNothing s

/-- 0x72 `KIL` (R264). -/
def execKil72 (s : State) : Host.Outcome State Fault Refusal := perform .kil72 handleNothing s

/-- 0x92 `KIL` (R264). -/
def execKil92 (s : State) : Host.Outcome State Fault Refusal := perform .kil92 handleNothing s

/-- 0xB2 `KIL` (R264). -/
def execKilB2 (s : State) : Host.Outcome State Fault Refusal := perform .kilB2 handleNothing s

/-- 0xD2 `KIL` (R264). -/
def execKilD2 (s : State) : Host.Outcome State Fault Refusal := perform .kilD2 handleNothing s

/-- 0xF2 `KIL` (R264). -/
def execKilF2 (s : State) : Host.Outcome State Fault Refusal := perform .kilF2 handleNothing s

end Sys2Proof.Machine
end

