-- ==== Sys2Proof/Machine/Events.lean ====
section
/-! DEFINITION. The host interface: fetching an instruction, the five entry points (00_scope.md R4), the host's
write to what the Bus returns (20_memory.md R66), the host's list of calls (70_reset_and_hazards.md R304), and the
diagnostic snapshot (10_state.md R44). -/

namespace Sys2Proof.Machine

/-- The instruction whose bytes the Bus returns at `PC`, `PC + 1`, `PC + 2`, each mod 65536, to the first, second
and third read of the call (R24, R64, R80, R117). Only the reads the instruction makes happen (`perform` puts them into
the trace and uses their answers): log 11. -/
def fetchInstr (s : State) : Instr := decode (s.busByte 0 s.pc) (s.busByte 1 (s.pc + 1)) (s.busByte 2 (s.pc + 2))

/-- `step()`: exactly one instruction (R100). -/
def stepInstr (s : State) : Host.Outcome State Fault Refusal := exec (fetchInstr s) s

/-- IRQ or NMI entry: `PC` is pushed as it is, and the cost is 7 cycles (R273, R274). -/
def interruptEntry (vector : Word) (s : State) : State :=
  (takeException s.pc Config.hwintPushB vector s.beginCall).addCycles Config.irqNmiCycles

/-- `triggerIRQ()` (R273): not gated on `P.I` (R275). -/
def triggerIRQ (s : State) : State := interruptEntry Config.irqVector s

/-- `triggerNMI()` (R274). -/
def triggerNMI (s : State) : State := interruptEntry Config.nmiVector s

/-- `reset()` (R300): the registers, the flags (0x24), `PC` from the reset vector, the counter. `CurrentMode`, `EA`,
`LastOpcode` and memory are not written. -/
def resetCall (s : State) : State :=
  { s.beginCall.jumpVector Config.resetVector with
    p := { n := false, v := false, d := false, i := true, z := false, c := false }
    a := 0x00
    x := 0x00
    y := 0x00
    sp := Config.resetSP
    cycles := Config.resetCycles
    live := true }

/-- `initialize()` (R301, decision D16): no Bus access; the CPU state is unspecified until the next `reset()`, so
the model marks it so and changes nothing else (log 7). -/
def initializeCall (s : State) : State := { s.beginCall with live := false }

/-- The host makes the Bus return `v` at `a` (R66): not an access of the core. -/
def busSetCall (a : Word) (v : Byte) (s : State) : State := { s.beginCall with mem := memWrite s.mem a.toNat v }

/-- The host settles what the Bus returns to its coming reads (R52, R66): not an access of the core. -/
def busAnswersCall (l : List BusAnswer) (s : State) : State := { s.beginCall with answers := l }

/-- What is defined only from the first `reset()` on (R43, R303): before it, refused (decision D16). -/
def whenLive (s : State) (f : State → Host.Outcome State Fault Refusal) : Host.Outcome State Fault Refusal :=
  if s.live then f s else .refused .beforeReset

/-- One call of the host, run to completion (R2, R277, R304). -/
def hostCall (c : HostCall) (s : State) : Host.Outcome State Fault Refusal :=
  match c with
  | .step => whenLive s stepInstr
  | .irq => whenLive s fun s => .next (triggerIRQ s)
  | .nmi => whenLive s fun s => .next (triggerNMI s)
  | .reset => .next (resetCall s)
  | .init => .next (initializeCall s)
  | .busSet a v => .next (busSetCall a v s)
  | .busAnswers l => .next (busAnswersCall l s)

/-- The host's next call: the first of its list, `step()` when the list is empty (R304, log 6). -/
def nextCall (s : State) : Host.Outcome State Fault Refusal :=
  match s.calls with
  | [] => hostCall .step s
  | c :: rest => hostCall c { s with calls := rest }

/-- The state whose next call is a `step()` that fetches the three given bytes at `PC`: the bytes are stored there,
the flat RAM answers the reads, the machine is past its reset, and a `step()` is put before calls that are still to
come. -/
def placeBytes (b0 b1 b2 : Byte) (s : State) : State :=
  { s with
    mem := memWrite (memWrite (memWrite s.mem s.pc.toNat b0) (s.pc + 1).toNat b1) (s.pc + 2).toNat b2
    answers := []
    live := true
    calls := match s.calls with
      | [] => []
      | c :: rest => .step :: c :: rest }

/-- What `step()` returns: "cycles consumed this step", the growth of `CycleCounter` (R100). -/
def stepReturns (s : State) : Option Nat :=
  match stepInstr s with
  | .next t => some (t.cycles - s.cycles)
  | .fault _ => none
  | .refused _ => none

/-- The diagnostic snapshot (R44). `EA` is not in it. -/
structure Snapshot where
  a : Byte
  x : Byte
  y : Byte
  sp : Byte
  pc : Word
  flags : Byte
  cycles : Nat
  lastOpcode : Byte
  mode : Mode
  deriving DecidableEq, Repr

/-- Reading the snapshot; it changes nothing (R44). -/
def snapshot (s : State) : Snapshot :=
  { a := s.a, x := s.x, y := s.y, sp := s.sp, pc := s.pc, flags := packP s.p, cycles := s.cycles,
    lastOpcode := s.lastOpcode, mode := s.mode }

end Sys2Proof.Machine
end

