-- ==== Sys2Proof/Machine/Step.lean ====
section
/-! DEFINITION. One step of the model, and the placing of an instruction where the next step fetches it. -/

namespace Sys2Proof.Machine

/-- One step: the host's next call, run to completion (`nextCall`, Events.lean). With no call listed it is
`step()`, one instruction. -/
def step (s : State) : Host.Outcome State Fault Refusal := nextCall s

/-- `s` with the instruction of bits `w` (numbered as spec/opcode_table.json numbers them, the bits from `nbits` on
zero) where the very next step fetches it (log 12). -/
def State.withFetchWord (s : State) (nbits w : Nat) : State :=
  placeBytes (tableByte nbits w 0) (tableByte nbits w 1) (tableByte nbits w 2) s

end Sys2Proof.Machine
end

