-- ==== Sys2Proof/WellFormed.lean ====
section
/-! DEFINITION. Well-formed instructions: what the spec demands of every dispatch row. Every field of an
instruction is as wide as its encoding, so no operand value is ill-formed; what can be ill-formed is a row. -/

namespace Sys2Proof

/-- The operand is the one the row's mode has (30_encoding.md R81). -/
def Row.operandFits (r : Row) : Bool := r.operand.bytes.length == r.mode.operandBytes

/-- The base cost lies between 2 and 8 (40_step_and_addressing.md R101). -/
def Row.baseInRange (r : Row) : Bool := decide (2 ≤ r.base) && decide (r.base ≤ 8)

/-- The page-cross flag is set only in a mode whose resolver uses the bonus (R102). -/
def Row.crossAllowed (r : Row) : Bool :=
  !r.cross || r.mode == .abx || r.mode == .aby || r.mode == .izy

/-- All three checks of a row. -/
def Row.wellFormed (r : Row) : Bool := r.operandFits && r.baseInRange && r.crossAllowed

/-- An instruction is well-formed when its row is. -/
def Instr.wellFormed (i : Instr) : Bool := i.row.wellFormed

end Sys2Proof
end

