-- ==== Sys2Proof/Safety.lean ====
section
/-! DEFINITION. The terms the statements use: the forms of each instruction as lists of constructors, what an
instruction reads and where, what every instruction leaves in the bookkeeping state, which memory stays the same,
and the invariant of the machine. -/

namespace Sys2Proof.Machine

/-! ### The forms of each instruction (30_encoding.md R86) -/

/-- Every form of LDA (R131). -/
def ldaForms (b : Byte) (w : Word) : List Instr :=
  [.ldaImm b, .ldaZp b, .ldaZpx b, .ldaAbs w, .ldaAbx w, .ldaAby w,
   .ldaIzx b, .ldaIzy b]

/-- Every form of LDX (R132). -/
def ldxForms (b : Byte) (w : Word) : List Instr :=
  [.ldxImm b, .ldxZp b, .ldxZpy b, .ldxAbs w, .ldxAby w]

/-- Every form of LDY (R133). -/
def ldyForms (b : Byte) (w : Word) : List Instr :=
  [.ldyImm b, .ldyZp b, .ldyZpx b, .ldyAbs w, .ldyAbx w]

/-- Every form of STA (R134). -/
def staForms (b : Byte) (w : Word) : List Instr :=
  [.staZp b, .staZpx b, .staAbs w, .staAbx w, .staAby w, .staIzx b,
   .staIzy b]

/-- Every form of STX (R135). -/
def stxForms (b : Byte) (w : Word) : List Instr :=
  [.stxZp b, .stxZpy b, .stxAbs w]

/-- Every form of STY (R136). -/
def styForms (b : Byte) (w : Word) : List Instr :=
  [.styZp b, .styZpx b, .styAbs w]

/-- Every form of ADC (R151). -/
def adcForms (b : Byte) (w : Word) : List Instr :=
  [.adcImm b, .adcZp b, .adcZpx b, .adcAbs w, .adcAbx w, .adcAby w,
   .adcIzx b, .adcIzy b]

/-- Every form of SBC (R152, R262). -/
def sbcForms (b : Byte) (w : Word) : List Instr :=
  [.sbcImm b, .sbcImmEB b, .sbcZp b, .sbcZpx b, .sbcAbs w, .sbcAbx w,
   .sbcAby w, .sbcIzx b, .sbcIzy b]

/-- Every form of ASL (R161). -/
def aslForms (b : Byte) (w : Word) : List Instr :=
  [.aslAcc, .aslZp b, .aslZpx b, .aslAbs w, .aslAbx w]

/-- Every form of LSR (R162). -/
def lsrForms (b : Byte) (w : Word) : List Instr :=
  [.lsrAcc, .lsrZp b, .lsrZpx b, .lsrAbs w, .lsrAbx w]

/-- Every form of ROL (R163). -/
def rolForms (b : Byte) (w : Word) : List Instr :=
  [.rolAcc, .rolZp b, .rolZpx b, .rolAbs w, .rolAbx w]

/-- Every form of ROR (R164). -/
def rorForms (b : Byte) (w : Word) : List Instr :=
  [.rorAcc, .rorZp b, .rorZpx b, .rorAbs w, .rorAbx w]

/-- Every form of AND (R170). -/
def andForms (b : Byte) (w : Word) : List Instr :=
  [.andImm b, .andZp b, .andZpx b, .andAbs w, .andAbx w, .andAby w,
   .andIzx b, .andIzy b]

/-- Every form of ORA (R171). -/
def oraForms (b : Byte) (w : Word) : List Instr :=
  [.oraImm b, .oraZp b, .oraZpx b, .oraAbs w, .oraAbx w, .oraAby w,
   .oraIzx b, .oraIzy b]

/-- Every form of EOR (R172). -/
def eorForms (b : Byte) (w : Word) : List Instr :=
  [.eorImm b, .eorZp b, .eorZpx b, .eorAbs w, .eorAbx w, .eorAby w,
   .eorIzx b, .eorIzy b]

/-- Every form of BIT (R173). -/
def bitForms (b : Byte) (w : Word) : List Instr :=
  [.bitZp b, .bitAbs w]

/-- Every form of CMP (R175). -/
def cmpForms (b : Byte) (w : Word) : List Instr :=
  [.cmpImm b, .cmpZp b, .cmpZpx b, .cmpAbs w, .cmpAbx w, .cmpAby w,
   .cmpIzx b, .cmpIzy b]

/-- Every form of CPX (R176). -/
def cpxForms (b : Byte) (w : Word) : List Instr :=
  [.cpxImm b, .cpxZp b, .cpxAbs w]

/-- Every form of CPY (R177). -/
def cpyForms (b : Byte) (w : Word) : List Instr :=
  [.cpyImm b, .cpyZp b, .cpyAbs w]

/-- Every form of INC (R178). -/
def incForms (b : Byte) (w : Word) : List Instr :=
  [.incZp b, .incZpx b, .incAbs w, .incAbx w]

/-- Every form of DEC (R179). -/
def decForms (b : Byte) (w : Word) : List Instr :=
  [.decZp b, .decZpx b, .decAbs w, .decAbx w]

/-- Every form of JMP (R199). -/
def jmpForms (w : Word) : List Instr :=
  [.jmpAbs w, .jmpInd w]

/-- Every form of NOP (R260, R216). -/
def nopForms (b : Byte) (w : Word) : List Instr :=
  [.nopImp1A, .nopImp3A, .nopImp5A, .nopImp7A, .nopImpDA, .nop,
   .nopImpFA, .nopImm80 b, .nopImm82 b, .nopImm89 b, .nopImmC2 b, .nopImmE2 b,
   .nopZp04 b, .nopZp44 b, .nopZp64 b, .nopZpx14 b, .nopZpx34 b, .nopZpx54 b,
   .nopZpx74 b, .nopZpxD4 b, .nopZpxF4 b, .nopAbs0C w, .nopAbx1C w, .nopAbx3C w,
   .nopAbx5C w, .nopAbx7C w, .nopAbxDC w, .nopAbxFC w]

/-- Every form of SLO (R237). -/
def sloForms (b : Byte) (w : Word) : List Instr :=
  [.sloZp b, .sloZpx b, .sloAbs w, .sloAbx w, .sloAby w, .sloIzx b,
   .sloIzy b]

/-- Every form of RLA (R238). -/
def rlaForms (b : Byte) (w : Word) : List Instr :=
  [.rlaZp b, .rlaZpx b, .rlaAbs w, .rlaAbx w, .rlaAby w, .rlaIzx b,
   .rlaIzy b]

/-- Every form of SRE (R239). -/
def sreForms (b : Byte) (w : Word) : List Instr :=
  [.sreZp b, .sreZpx b, .sreAbs w, .sreAbx w, .sreAby w, .sreIzx b,
   .sreIzy b]

/-- Every form of RRA (R240). -/
def rraForms (b : Byte) (w : Word) : List Instr :=
  [.rraZp b, .rraZpx b, .rraAbs w, .rraAbx w, .rraAby w, .rraIzx b,
   .rraIzy b]

/-- Every form of DCP (R241). -/
def dcpForms (b : Byte) (w : Word) : List Instr :=
  [.dcpZp b, .dcpZpx b, .dcpAbs w, .dcpAbx w, .dcpAby w, .dcpIzx b,
   .dcpIzy b]

/-- Every form of ISC (R242). -/
def iscForms (b : Byte) (w : Word) : List Instr :=
  [.iscZp b, .iscZpx b, .iscAbs w, .iscAbx w, .iscAby w, .iscIzx b,
   .iscIzy b]

/-- Every form of LAX (R243). -/
def laxForms (b : Byte) (w : Word) : List Instr :=
  [.laxImm b, .laxZp b, .laxZpy b, .laxAbs w, .laxAby w, .laxIzx b,
   .laxIzy b]

/-- Every form of SAX (R244). -/
def saxForms (b : Byte) (w : Word) : List Instr :=
  [.saxZp b, .saxZpy b, .saxAbs w, .saxIzx b]

/-- Every form of ANC (R246). -/
def ancForms (b : Byte) : List Instr :=
  [.ancImm0B b, .ancImm2B b]

/-- Every form of AHX (R254). -/
def ahxForms (b : Byte) (w : Word) : List Instr :=
  [.ahxAby w, .ahxIzy b]

/-- Every form of KIL (R264). -/
def kilForms : List Instr :=
  [.kil02, .kil12, .kil22, .kil32, .kil42, .kil52,
   .kil62, .kil72, .kil92, .kilB2, .kilD2, .kilF2]

/-- Every form of the ten placeholders (47_illegal.md R245 to R255). -/
def placeholderForms (b : Byte) (w : Word) : List Instr :=
  [.ancImm0B b, .ancImm2B b, .alrImm b, .arrImm b, .xaaImm b, .axsImm b,
   .tasAby w, .shyAbx w, .shxAby w, .ahxAby w, .ahxIzy b, .lasAby w]

/-- The eight branches (45_branch_jump.md R191 to R198). -/
def branchForms (b : Byte) : List Instr :=
  [.bpl b, .bmi b, .bvc b, .bvs b, .bcc b, .bcs b, .bne b, .beq b]

/-- The instructions that have one form and are neither branch nor placeholder. -/
def singleForms (w : Word) : List Instr :=
  [.tax, .tay, .txa, .tya, .tsx, .txs, .inx, .iny,
   .dex, .dey, .jsrAbs w, .rts, .pha, .pla, .php, .plp,
   .brk, .rti, .clc, .sec, .cli, .sei, .clv, .cld,
   .sed]

/-- Every instruction of rule R86 with the operand byte `b` or the operand word `w`. -/
def allForms (b : Byte) (w : Word) : List Instr :=
  List.flatten [
    ldaForms b w, ldxForms b w, ldyForms b w, staForms b w, stxForms b w, styForms b w,
    adcForms b w, sbcForms b w, aslForms b w, lsrForms b w, rolForms b w, rorForms b w,
    andForms b w, oraForms b w, eorForms b w, bitForms b w, cmpForms b w, cpxForms b w,
    cpyForms b w, incForms b w, decForms b w, jmpForms w, nopForms b w, sloForms b w,
    rlaForms b w, sreForms b w, rraForms b w, dcpForms b w, iscForms b w, laxForms b w,
    saxForms b w, kilForms, placeholderForms b w, branchForms b, singleForms w]

/-! ### What an instruction reads, and where -/

/-- An "Encodings" entry of the instruction rules: opcode, mode, base cycles, page-cross flag. -/
abbrev Code := Byte × Mode × Nat × Bool

/-- A row without its operand. -/
def rowCode (r : Row) : Code := (r.opcode, r.mode, r.base, r.cross)

/-- The effective address of `i` when it starts in `s` (40_step_and_addressing.md R104 to R116). -/
def eaOf (i : Instr) (s : State) : Word := effectiveAddress i.row.mode i.row.operand (fetchOpcode i.row s)

/-- The operand `i` reads when it starts in `s`: its operand byte in Immediate mode, else what the Bus returns at
`eaOf i s` to the read that follows those of the fetch and the resolver. -/
def operandOf (i : Instr) (s : State) : Byte :=
  if i.row.mode = .imm then i.row.operand.lo else s.busByte (1 + resolverReadCount i.row.mode) (eaOf i s)

/-- What the Bus returns when `i`, a composite started in `s`, reads `EA` again after writing `r` there (R236): the
host's answer to that read, else `r`, which the flat RAM then holds. -/
def rereadOf (i : Instr) (s : State) (r : Byte) : Byte :=
  s.answers[1 + resolverReadCount i.row.mode + 1]?.join.getD r

/-- The Bus reads of `i`'s fetch and resolver, in order (R117). -/
def fetchReads (i : Instr) (s : State) : List Access :=
  .read s.pc i.row.opcode :: resolverReads i.row.mode i.row.operand (fetchOpcode i.row s)

/-- The address of the instruction after `i` (10_state.md R24). -/
def nextPC (i : Instr) (s : State) : Word := s.pc + BitVec.ofNat 16 i.length

/-- Base cost and page-cross bonus of `i` (R101): its whole cost when it is no branch. -/
def costOf (i : Instr) (s : State) : Nat := i.row.base + crossBonus i.row (fetchOpcode i.row s)

/-! ### The Bus -/

/-- How many of the accesses are reads. -/
def readCount : List Access → Nat
  | [] => 0
  | .read _ _ :: rest => readCount rest + 1
  | .write _ _ :: rest => readCount rest

/-- The accesses performed on a Bus whose flat RAM holds `m` and whose host answers are `l` (R52): every read must have
returned the host's answer, else what the RAM holds at that moment; every write lands. The result is the RAM and the
answers left over, `none` when a read returned something else. -/
def busRun (m : Memory) (l : List BusAnswer) : List Access → Option (Memory × List BusAnswer)
  | [] => some (m, l)
  | .read a v :: rest => if v = l[0]?.join.getD (memRead m a.toNat) then busRun m (l.drop 1) rest else none
  | .write a v :: rest => busRun (memWrite m a.toNat v) l rest

/-- The byte that the accesses wrote to `a` last, `old` where they wrote none. -/
def lastWritten (accesses : List Access) (a : Word) (old : Byte) : Byte :=
  (accesses.reverse.findSome? fun
    | .read _ _ => none
    | .write b v => if b = a then some v else none).getD old

/-! ### What an instruction leaves -/

/-- The four byte registers as one value. -/
structure Regs where
  a : Byte
  x : Byte
  y : Byte
  sp : Byte
  deriving DecidableEq, Repr

/-- The registers of a state. -/
def State.regs (s : State) : Regs := { a := s.a, x := s.x, y := s.y, sp := s.sp }

/-- `P.N` and `P.Z` as the byte `v` sets them, the other flags as they are in `p` (00_scope.md R10 `SetNZ`). -/
def withNZ (v : Byte) (p : Flags) : Flags := { n := v.getLsbD 7, v := p.v, d := p.d, i := p.i, z := v == 0, c := p.c }

/-- What every instruction `i` run from `s` leaves in the bookkeeping state: `LastOpcode`, `CurrentMode` and `EA`
written (10_state.md R36, R37, R38), one of the host's answers used for each Bus read, and what is outside an
instruction's reach as it was. -/
structure Booked (i : Instr) (s t : State) : Prop where
  lastOpcode : t.lastOpcode = i.row.opcode
  mode : t.mode = i.row.mode
  ea : t.ea = eaOf i s
  live : t.live = s.live
  calls : t.calls = s.calls
  sentinels : t.sentinels = s.sentinels + sentinelDraws i.row.mode
  answers : t.answers = s.answers.drop (readCount t.trace)

/-- `i` run from `s` continues with the next instruction in memory, costs `costOf i s`, and after its fetch and
resolver reads makes exactly the Bus accesses `handler`. -/
structure Straight (i : Instr) (handler : List Access) (s t : State) : Prop extends Booked i s t where
  pc : t.pc = nextPC i s
  cycles : t.cycles = s.cycles + costOf i s
  trace : t.trace = fetchReads i s ++ handler

/-- The flat RAM holds at every address what it held. -/
def MemSame (s t : State) : Prop := ∀ a : Word, t.byteAt a = s.byteAt a

/-- The flat RAM holds the bytes of `l` at their addresses (the first pair of an address counts), and at every other
address what it held. -/
def MemAfter (l : List (Word × Byte)) (s t : State) : Prop :=
  ∀ a : Word, t.byteAt a = (l.lookup a).getD (s.byteAt a)

/-! ### The invariant -/

/-- The invariant of the machine: memory is in its canonical form, and the last entry-point call made at most seven
Bus accesses (20_memory.md R56). -/
def Inv (s : State) : Prop := Memory.wf s.mem ∧ s.trace.length ≤ 7

end Sys2Proof.Machine
end

