-- ==== Sys2Proof/Certificates/Slice0/Obligations.lean ====
section
/-! DEFINITION. The statements for the provers. Each docstring names the rules of spec/ it formalises. The terms
(`ldaForms`, `operandOf`, `Straight`, …) stand in Sys2Proof/Safety.lean.

What a docstring says a statement rests on is no plain rule of the source document: a choice D<n> is the spec's own
(92_eei_decisions.md; D1 is the opcode map with its cycles, D18 and D19 the MOS 6502 meaning of mnemonics and their N
and Z, all marked there "from general knowledge, not in source"); a log is notes/assumptions/<n>.md (1 how the Bus is
modelled, 3 the sentinel in `EA`, 8 the trace). `s.busByte k a` is what the Bus returns to a read of `a` that comes after
`k` other reads of the call (20_memory.md R52), whatever the host makes of its Bus; `byteAt` is the flat RAM behind it. -/

open Sys2Proof Sys2Proof.Machine

/-! ### Encoding and decoding -/

/-- Decode and encode agree for every instruction, whatever follows it in memory (30_encoding.md R80, R81, R83, R86).
Rests on the spec's own choices D1, D5 (log 9). -/
def Obligations.DecodeOfEncode : Prop :=
  ∀ (i : Instr) (rest : List Byte), decodeBytes (encode i ++ rest) = .ok (i, rest)

/-- The other direction: any three bytes decode to the instruction whose encoding is the first of them, as many as
its length says; no two byte sequences share an instruction (R80, R82). Rests on the spec's own choices D1, D5 (log
9). -/
def Obligations.EncodeOfDecode : Prop :=
  ∀ b0 b1 b2 : Byte, encode (decode b0 b1 b2) = [b0, b1, b2].take (decode b0 b1 b2).length

/-- Decoding is total: every byte sequence that holds the operand bytes its first byte calls for decodes, to an
instruction with that opcode, the length is one byte more than the mode's operand bytes, the bytes are the opcode and
then the operand, low byte first, and the opcode byte alone determines the length (R80, R81, R82). Rests on the
spec's own choices D1, D5 (log 9). -/
def Obligations.EveryByteSequenceDecodes : Prop :=
  (∀ (b0 : Byte) (rest : List Byte), (decode b0 0 0).row.mode.operandBytes ≤ rest.length →
    ∃ i, decodeBytes (b0 :: rest) = .ok (i, (b0 :: rest).drop i.length) ∧ i.row.opcode = b0) ∧
  (∀ i : Instr, (encode i).length = i.length ∧ i.length = 1 + i.row.mode.operandBytes ∧
    encode i = i.row.opcode :: match i.row.mode with
      | .imp | .acc => []
      | .imm | .zp | .zpx | .zpy | .izx | .izy | .rel => [i.row.operand.lo]
      | .abs | .abx | .aby | .ind => [i.row.operand.lo, i.row.operand.hi]) ∧
  (∀ b0 b1 b2 c1 c2 : Byte, (decode b0 b1 b2).row.mode = (decode b0 c1 c2).row.mode)

/-- A few words of the spec's syntax table and of its examples, one for each family (R89 and files 41 to 47). Rests
on the spec's own choices D1, D5 (log 9). -/
def Obligations.SampleWordsDecode : Prop :=
  decodeBytes [0xAD, 0x34, 0x12] = .ok (.ldaAbs 0x1234, []) ∧
  decodeBytes [0x69, 0x01] = .ok (.adcImm 0x01, []) ∧
  decodeBytes [0x0A] = .ok (.aslAcc, []) ∧
  decodeBytes [0x24, 0x10] = .ok (.bitZp 0x10, []) ∧
  decodeBytes [0xD0, 0x03] = .ok (.bne 0x03, []) ∧
  decodeBytes [0x6C, 0x34, 0x12] = .ok (.jmpInd 0x1234, []) ∧
  decodeBytes [0x00] = .ok (.brk, []) ∧
  decodeBytes [0x07, 0x10] = .ok (.sloZp 0x10, [])

/-- The dispatch rows: each is well-formed (the operand fits the mode, the base cost lies between 2 and 8), the
page-cross flag is set exactly for the opcodes that only read through AbsoluteX, AbsoluteY or IndirectY (R81, R85
(b), 40_step_and_addressing.md R101), and the rows of CMP, CPX and CPY are those of R175 to R177 (the other
instructions' rows stand in their own statements). Rests on the spec's own choices D1, D14 (log 9). -/
def Obligations.DispatchRows : Prop :=
  (∀ i : Instr, i.wellFormed = true ∧
    (i.row.cross = true ↔
      ∃ b w, i ∈ ([.ldaAbx w, .ldaAby w, .ldaIzy b, .ldxAby w, .ldyAbx w, .adcAbx w, .adcAby w, .adcIzy b,
        .sbcAbx w, .sbcAby w, .sbcIzy b, .andAbx w, .andAby w, .andIzy b, .oraAbx w, .oraAby w, .oraIzy b,
        .eorAbx w, .eorAby w, .eorIzy b, .cmpAbx w, .cmpAby w, .cmpIzy b, .laxAby w, .laxIzy b, .lasAby w,
        .nopAbx1C w, .nopAbx3C w, .nopAbx5C w, .nopAbx7C w, .nopAbxDC w, .nopAbxFC w] : List Instr))) ∧
  ∀ (b : Byte) (w : Word),
    (cmpForms b w).map (fun i => rowCode i.row) =
      ([(0xC9, .imm, 2, false), (0xC5, .zp, 3, false), (0xD5, .zpx, 4, false), (0xCD, .abs, 4, false),
      (0xDD, .abx, 4, true), (0xD9, .aby, 4, true), (0xC1, .izx, 6, false), (0xD1, .izy, 5, true)] : List Code) ∧
    (cpxForms b w).map (fun i => rowCode i.row) =
      ([(0xE0, .imm, 2, false), (0xE4, .zp, 3, false), (0xEC, .abs, 4, false)] : List Code) ∧
    (cpyForms b w).map (fun i => rowCode i.row) =
      ([(0xC0, .imm, 2, false), (0xC4, .zp, 3, false), (0xCC, .abs, 4, false)] : List Code)

/-! ### The step, the resolvers and the cycle count -/

/-- A step runs the decoded instruction: when the bytes the Bus returns at `PC` decode to `i`, a step whose next host
call is `step()` is `exec i` (R100; the host's list of calls is the model's, log 6). Rests on the spec's own choice
D20 (log 9) and on logs 6, 11. -/
def Obligations.StepRunsDecodedInstruction : Prop :=
  ∀ (s : State) (i : Instr) (rest : List Byte), s.live = true → i.wellFormed = true →
    decodeBytes [s.busByte 0 s.pc, s.busByte 1 (s.pc + 1), s.busByte 2 (s.pc + 2)] = .ok (i, rest) →
      (s.calls = [] → step s = exec i s) ∧
      (∀ cs, s.calls = .step :: cs → step s = exec i { s with calls := cs })

/-- Totality (00_scope.md R11): every instruction completes in every state, `reset()` completes in every state, and
from the first `reset()` on every step does, whichever entry point it calls: never a fault, never a refusal. (Before
it `step()` and the triggers are outside the spec, R43: BeforeResetRefused.) Rests on the spec's own choice D16 (log
9) and on log 7. -/
def Obligations.EveryEntryPointCompletes : Prop :=
  (∀ (i : Instr) (s : State), ∃ t, exec i s = .next t) ∧
  (∀ s : State, s.live = true → ∃ t, step s = .next t) ∧
  (∀ s : State, ∃ t, hostCall .reset s = .next t)

/-- Before the first `reset()` a `step()` or trigger is refused by name; `reset()` ends that and `initialize()`
brings it back (10_state.md R43, decision D16; that `initialize()` after a reset does so is the model's choice, log
7). Rests on the spec's own choice D16 (log 9) and on log 7. -/
def Obligations.BeforeResetRefused : Prop :=
  (∀ s : State, s.live = false → ∀ c ∈ ([.step, .irq, .nmi] : List HostCall),
    hostCall c s = .refused .beforeReset) ∧
  (∀ (s t : State) (c : HostCall), hostCall c s = .next t →
    t.live = match c with
      | .reset => true
      | .init => false
      | .step | .irq | .nmi | .busSet _ _ | .busAnswers _ => s.live)

/-- The effective address of each mode as the resolver rules compute it, on natural numbers (R104 to R106, R108, R110
to R116). Implied and Accumulator set a sentinel and say nothing (R107, R109). Rests on the spec's own choices D5,
D11 (log 9) and on logs 1, 3, 11. -/
def Obligations.EffectiveAddressOfMode : Prop :=
  ∀ (i : Instr) (s : State),
    let o := i.row.operand
    let ea := (eaOf i s).toNat
    match i.row.mode with
    | .imp | .acc => True
    | .imm => ea = (s.pc.toNat + 1) % 65536
    | .zp => ea = o.lo.toNat
    | .zpx => ea = (o.lo.toNat + s.x.toNat) % 256
    | .zpy => ea = (o.lo.toNat + s.y.toNat) % 256
    | .abs => ea = o.hi.toNat * 256 + o.lo.toNat
    | .abx => ea = (o.hi.toNat * 256 + o.lo.toNat + s.x.toNat) % 65536
    | .aby => ea = (o.hi.toNat * 256 + o.lo.toNat + s.y.toNat) % 65536
    | .izx =>
      let z := (o.lo.toNat + s.x.toNat) % 256
      ea = (s.busByte 3 (BitVec.ofNat 16 ((z + 1) % 256))).toNat * 256 + (s.busByte 2 (BitVec.ofNat 16 z)).toNat
    | .izy =>
      let z := o.lo.toNat
      ea = ((s.busByte 3 (BitVec.ofNat 16 ((z + 1) % 256))).toNat * 256 + (s.busByte 2 (BitVec.ofNat 16 z)).toNat +
        s.y.toNat) % 65536
    | .ind =>
      let p := o.hi.toNat * 256 + o.lo.toNat
      ea = (s.busByte 4 (BitVec.ofNat 16 (p / 256 * 256 + (p + 1) % 256))).toNat * 256 +
        (s.busByte 3 (BitVec.ofNat 16 p)).toNat
    | .rel =>
      (ea : Int) = ((s.pc.toNat : Int) + 2 + (if o.lo.toNat < 128 then (o.lo.toNat : Int) else o.lo.toNat - 256)) % 65536

/-- Zeropage (R114): `EA` is the operand byte. ZeropageX (R115): `EA` is the operand plus `X` mod 256, never in page
1. Relative (R113): `EA` is the address behind the operand plus the signed offset, mod 65536, whether or not the
branch is taken; only the eight branches use this mode. Each has one operand byte, which its resolver reads behind
the opcode and which is all it reads, and none adds a cycle. -/
def Obligations.OneByteOperandAddresses : Prop :=
  (∀ (i : Instr) (s t : State), exec i s = .next t →
    let lo := i.row.operand.lo
    (i.row.mode = .zp ∨ i.row.mode = .zpx ∨ i.row.mode = .rel →
      i.length = 2 ∧ fetchReads i s = [.read s.pc i.row.opcode, .read (s.pc + 1) lo] ∧
      crossBonus i.row (fetchOpcode i.row s) = 0) ∧
    (i.row.mode = .zp → t.ea.toNat = lo.toNat) ∧
    (i.row.mode = .zpx → t.ea.toNat = (lo.toNat + s.x.toNat) % 256) ∧
    (i.row.mode = .rel → (t.ea.toNat : Int) =
      ((s.pc.toNat : Int) + 2 + (if lo.toNat < 128 then (lo.toNat : Int) else lo.toNat - 256)) % 65536)) ∧
  (∀ i : Instr, i.row.mode = .rel ↔ ∃ b, i ∈ branchForms b)

/-- The Bus reads of the fetch and resolver part, in order, come first in every instruction's accesses (R117), and an
instruction makes between one and seven accesses (20_memory.md R56). Rests on the spec's own choices D5, D11 (log 9)
and on logs 1, 8, 11. -/
def Obligations.FetchReadsComeFirst : Prop :=
  ∀ (i : Instr) (s t : State), exec i s = .next t →
    (∃ handler, t.trace = fetchReads i s ++ handler) ∧ 1 ≤ t.trace.length ∧ t.trace.length ≤ 7 ∧
    (fetchReads i s).map (fun | .read a _ => a | .write a _ => a) =
      s.pc :: match i.row.mode with
        | .imp | .acc | .imm => []
        | .zp | .zpx | .zpy | .rel => [s.pc + 1]
        | .izx => [s.pc + 1, zext16 (i.row.operand.lo + s.x), zext16 (i.row.operand.lo + s.x + 1)]
        | .izy => [s.pc + 1, zext16 i.row.operand.lo, zext16 (i.row.operand.lo + 1)]
        | .abs | .abx | .aby => [s.pc + 1, s.pc + 2]
        | .ind => [s.pc + 1, s.pc + 2, i.row.operand.asWord,
            joinBytes i.row.operand.hi (i.row.operand.lo + 1)]

/-- Cycle accounting: base cost, plus one when the page-cross flag is set and indexing crosses a page, plus nothing
for a branch not taken, one for a taken one, two when its target is on another page than the next instruction;
between 2 and 8 in all (R101, R102). Rests on the spec's own choices D11, D15, D18 (log 9) and on log 1. -/
def Obligations.CycleAccounting : Prop :=
  ∀ (i : Instr) (s t : State), exec i s = .next t →
    let crossed : Bool := match i.row.mode with
      | .abx | .aby => page (eaOf i s) != page i.row.operand.asWord
      | .izy => page (eaOf i s) != page (zpPointer (fetchOpcode i.row s) i.row.operand.lo)
      | .imp | .acc | .imm | .zp | .zpx | .zpy | .abs | .izx | .ind | .rel => false
    let taken : Bool := match i with
      | .bpl _ => !s.p.n | .bmi _ => s.p.n | .bvc _ => !s.p.v | .bvs _ => s.p.v
      | .bcc _ => !s.p.c | .bcs _ => s.p.c | .bne _ => !s.p.z | .beq _ => s.p.z
      | _ => false
    t.cycles = s.cycles + (i.row.base + (if i.row.cross && crossed then 1 else 0) +
      (if taken then (if page (eaOf i s) = page (nextPC i s) then 1 else 2) else 0)) ∧
    s.cycles + 2 ≤ t.cycles ∧ t.cycles ≤ s.cycles + 8

/-! ### Load, store, transfer (41_load_store_transfer.md) -/

/-- LDA (R131), LDX (R132), LDY (R133): their encodings; each reads `EA` once, its register becomes the byte, N and Z
come from it, nothing else changes. Rests on the spec's own choices D1, D18 (log 9) and on logs 1, 3, 8, 11. -/
def Obligations.LoadsReadByte : Prop :=
  ∀ (b : Byte) (w : Word),
    (ldaForms b w).map (fun i => rowCode i.row) =
      ([(0xA9, .imm, 2, false), (0xA5, .zp, 3, false), (0xB5, .zpx, 4, false), (0xAD, .abs, 4, false),
      (0xBD, .abx, 4, true), (0xB9, .aby, 4, true), (0xA1, .izx, 6, false), (0xB1, .izy, 5, true)] : List Code) ∧
    (ldxForms b w).map (fun i => rowCode i.row) =
      ([(0xA2, .imm, 2, false), (0xA6, .zp, 3, false), (0xB6, .zpy, 4, false), (0xAE, .abs, 4, false),
      (0xBE, .aby, 4, true)] : List Code) ∧
    (ldyForms b w).map (fun i => rowCode i.row) =
      ([(0xA0, .imm, 2, false), (0xA4, .zp, 3, false), (0xB4, .zpx, 4, false), (0xAC, .abs, 4, false),
      (0xBC, .abx, 4, true)] : List Code) ∧
    ∀ (s : State) (i : Instr) (r : Regs),
      ((i ∈ ldaForms b w ∧ r = { s.regs with a := operandOf i s }) ∨
        (i ∈ ldxForms b w ∧ r = { s.regs with x := operandOf i s }) ∨
        (i ∈ ldyForms b w ∧ r = { s.regs with y := operandOf i s })) →
      ∃ t, exec i s = .next t ∧ t.regs = r ∧ t.p = withNZ (operandOf i s) s.p ∧
        Straight i [.read (eaOf i s) (operandOf i s)] s t ∧ MemSame s t

/-- STA (R134), STX (R135), STY (R136): one write of `EA` and no read; no register and no flag changes; every other
byte of memory reads as before. Rests on the spec's own choices D1, D18 (log 9) and on logs 1, 3, 8. -/
def Obligations.StoresWriteRegister : Prop :=
  ∀ (b : Byte) (w : Word),
    (staForms b w).map (fun i => rowCode i.row) =
      ([(0x85, .zp, 3, false), (0x95, .zpx, 4, false), (0x8D, .abs, 4, false), (0x9D, .abx, 5, false),
      (0x99, .aby, 5, false), (0x81, .izx, 6, false), (0x91, .izy, 6, false)] : List Code) ∧
    (stxForms b w).map (fun i => rowCode i.row) =
      ([(0x86, .zp, 3, false), (0x96, .zpy, 4, false), (0x8E, .abs, 4, false)] : List Code) ∧
    (styForms b w).map (fun i => rowCode i.row) =
      ([(0x84, .zp, 3, false), (0x94, .zpx, 4, false), (0x8C, .abs, 4, false)] : List Code) ∧
    ∀ (s : State), Memory.wf s.mem → ∀ r : Byte, ∀ i : Instr,
      ((i ∈ staForms b w ∧ r = s.a) ∨ (i ∈ stxForms b w ∧ r = s.x) ∨ (i ∈ styForms b w ∧ r = s.y)) →
      ∃ t, exec i s = .next t ∧ t.regs = s.regs ∧ t.p = s.p ∧
        Straight i [.write (eaOf i s) r] s t ∧ MemAfter [(eaOf i s, r)] s t

/-- TAX TAY TXA TYA TSX (R137 to R141) copy a register and set N and Z from the copied value; TXS (R142) copies `X`
to `SP` and affects no flags. No Bus access beyond the opcode. Rests on the spec's own choices D1, D18, D19 (log 9)
and on logs 1, 3, 8. -/
def Obligations.TransfersCopyRegister : Prop :=
  [Instr.tax, .tay, .txa, .tya, .tsx, .txs].map (fun i => rowCode i.row) =
    ([(0xAA, .imp, 2, false), (0xA8, .imp, 2, false), (0x8A, .imp, 2, false), (0x98, .imp, 2, false),
     (0xBA, .imp, 2, false), (0x9A, .imp, 2, false)] : List Code) ∧
  ∀ (s : State), ∀ c ∈ [(Instr.tax, { s.regs with x := s.a }, withNZ s.a s.p),
      (.tay, { s.regs with y := s.a }, withNZ s.a s.p), (.txa, { s.regs with a := s.x }, withNZ s.x s.p),
      (.tya, { s.regs with a := s.y }, withNZ s.y s.p), (.tsx, { s.regs with x := s.sp }, withNZ s.sp s.p),
      (.txs, { s.regs with sp := s.x }, s.p)],
    ∃ t, exec c.1 s = .next t ∧ t.regs = c.2.1 ∧ t.p = c.2.2 ∧ Straight c.1 [] s t ∧ MemSame s t

/-! ### Arithmetic (42_arithmetic.md) -/

/-- ADC (R151) by the adder (R150): result, C from the 9-bit sum, V when the signed sum lies outside -128 to 127, N
and Z from the result; `P.D` changes nothing. Rests on the spec's own choices D1, D3, D19 (log 9) and on logs 1, 3,
8, 11. -/
def Obligations.AdcAdds : Prop :=
  ∀ (b : Byte) (w : Word), (adcForms b w).map (fun i => rowCode i.row) =
      ([(0x69, .imm, 2, false), (0x65, .zp, 3, false), (0x75, .zpx, 4, false), (0x6D, .abs, 4, false),
      (0x7D, .abx, 4, true), (0x79, .aby, 4, true), (0x61, .izx, 6, false), (0x71, .izy, 5, true)] : List Code) ∧
    ∀ (s : State), ∀ i ∈ adcForms b w,
      let m := operandOf i s
      let sum := s.a.toNat + m.toNat + s.p.c.toNat
      let signed := s.a.toInt + m.toInt + s.p.c.toNat
      let r : Byte := BitVec.ofNat 8 (sum % 256)
      ∃ t, exec i s = .next t ∧ t.regs = { s.regs with a := r } ∧
        t.p = withNZ r { s.p with c := decide (sum > 255), v := decide (signed < -128 ∨ 127 < signed) } ∧
        Straight i [.read (eaOf i s) m] s t ∧ MemSame s t

/-- SBC (R152) and its alias 0xEB (47_illegal.md R262): `A - m - (1 - C)`, C says that no borrow occurred, V that the
signed difference lies outside -128 to 127, N and Z come from the result. Rests on the spec's own choices D1, D3, D19
(log 9) and on logs 1, 3, 8, 11. -/
def Obligations.SbcSubtracts : Prop :=
  ∀ (b : Byte) (w : Word), (sbcForms b w).map (fun i => rowCode i.row) =
      ([(0xE9, .imm, 2, false), (0xEB, .imm, 2, false), (0xE5, .zp, 3, false), (0xF5, .zpx, 4, false),
      (0xED, .abs, 4, false), (0xFD, .abx, 4, true), (0xF9, .aby, 4, true), (0xE1, .izx, 6, false),
      (0xF1, .izy, 5, true)] : List Code) ∧
    ∀ (s : State), ∀ i ∈ sbcForms b w,
      let m := operandOf i s
      let borrow : Int := 1 - s.p.c.toNat
      let diff : Int := (s.a.toNat : Int) - m.toNat - borrow
      let signed : Int := s.a.toInt - m.toInt - borrow
      let r : Byte := BitVec.ofInt 8 diff
      ∃ t, exec i s = .next t ∧ t.regs = { s.regs with a := r } ∧
        t.p = withNZ r { s.p with c := decide (0 ≤ diff), v := decide (signed < -128 ∨ 127 < signed) } ∧
        Straight i [.read (eaOf i s) m] s t ∧ MemSame s t

/-- The document's overflow formula `~(A ^ m) & (A ^ r) & 0x80` says exactly that the signed sum lies outside -128 to
127, for every pair of bytes and either carry-in (R150). -/
def Obligations.OverflowFormulaIsSignedOverflow : Prop :=
  ∀ (a m : Byte) (c : Bool),
    (((~~~(a ^^^ m)) &&& (a ^^^ BitVec.ofNat 8 (a.toNat + m.toNat + c.toNat)) &&& 0x80) ≠ 0 ↔
      a.toInt + m.toInt + c.toNat < -128 ∨ 127 < a.toInt + m.toInt + c.toNat) ∧
    addOverflow a m (addResult a m c) = decide (a.toInt + m.toInt + c.toNat < -128 ∨ 127 < a.toInt + m.toInt + c.toNat)

/-- "`SBC(ADC(a, b, carry_in=0), b, carry_in=1)` recovers `a`", for the instructions themselves, whatever `P.D` and
the other flags hold (R153, R154). Rests on the spec's own choice D3 (log 9). -/
def Obligations.SbcUndoesAdc : Prop :=
  ∀ (s t u : State) (m : Byte), s.p.c = false → exec (.adcImm m) s = .next t →
    exec (.sbcImm m) { t with p := { t.p with c := true } } = .next u → u.a = s.a

/-- `P.D` does not change any arithmetic: ADC, SBC, RRA and ISC run from two states that differ in `P.D` alone end in
states that differ in `P.D` alone (R154). Rests on the spec's own choice D3 (log 9). -/
def Obligations.DecimalFlagInert : Prop :=
  ∀ (b : Byte) (w : Word) (s t : State) (d : Bool),
    ∀ i ∈ adcForms b w ++ sbcForms b w ++ rraForms b w ++ iscForms b w, exec i s = .next t →
      exec i { s with p := { s.p with d := d } } = .next { t with p := { t.p with d := d } }

/-! ### Shift and rotate (43_shift_rotate.md) -/

/-- ASL (R160, R161) and LSR (R160, R162): on `A` in Accumulator mode, else on memory with one read and one write of
`EA`. ASL doubles the byte mod 256 and C takes bit 7; LSR halves it, C takes bit 0 and N is 0. Rests on the spec's
own choices D1, D18, D19 (log 9) and on logs 1, 3, 8. -/
def Obligations.ShiftsMoveBits : Prop :=
  ∀ (b : Byte) (w : Word),
    (aslForms b w).map (fun i => rowCode i.row) =
      ([(0x0A, .acc, 2, false), (0x06, .zp, 5, false), (0x16, .zpx, 6, false), (0x0E, .abs, 6, false),
      (0x1E, .abx, 7, false)] : List Code) ∧
    (lsrForms b w).map (fun i => rowCode i.row) =
      ([(0x4A, .acc, 2, false), (0x46, .zp, 5, false), (0x56, .zpx, 6, false), (0x4E, .abs, 6, false),
      (0x5E, .abx, 7, false)] : List Code) ∧
    ∀ (s : State), Memory.wf s.mem → ∀ (i : Instr) (r : Byte) (c : Bool),
      let v := if i = .aslAcc ∨ i = .lsrAcc then s.a else operandOf i s
      ((i ∈ aslForms b w ∧ r = BitVec.ofNat 8 (2 * v.toNat) ∧ c = decide (128 ≤ v.toNat)) ∨
        (i ∈ lsrForms b w ∧ r = BitVec.ofNat 8 (v.toNat / 2) ∧ c = decide (v.toNat % 2 = 1))) →
      ∃ t, exec i s = .next t ∧ t.p = withNZ r { s.p with c := c } ∧
        (i ∈ lsrForms b w → t.p.n = false) ∧
        if i = .aslAcc ∨ i = .lsrAcc then t.regs = { s.regs with a := r } ∧ Straight i [] s t ∧ MemSame s t
        else t.regs = s.regs ∧ Straight i [.read (eaOf i s) v, .write (eaOf i s) r] s t ∧
          MemAfter [(eaOf i s, r)] s t

/-- ROL (R160, R163) and ROR (R160, R164): on `A` in Accumulator mode, else on memory with one read and one write of
`EA`. ROL doubles the byte mod 256, the old carry enters bit 0 and C takes bit 7; ROR halves it, the old carry enters
bit 7, C takes bit 0 and N equals the old carry. Rests on the spec's own choices D1, D18, D19 (log 9) and on logs 1,
3, 8. -/
def Obligations.RotatesMoveBits : Prop :=
  ∀ (b : Byte) (w : Word),
    (rolForms b w).map (fun i => rowCode i.row) =
      ([(0x2A, .acc, 2, false), (0x26, .zp, 5, false), (0x36, .zpx, 6, false), (0x2E, .abs, 6, false),
      (0x3E, .abx, 7, false)] : List Code) ∧
    (rorForms b w).map (fun i => rowCode i.row) =
      ([(0x6A, .acc, 2, false), (0x66, .zp, 5, false), (0x76, .zpx, 6, false), (0x6E, .abs, 6, false),
      (0x7E, .abx, 7, false)] : List Code) ∧
    ∀ (s : State), Memory.wf s.mem → ∀ (i : Instr) (r : Byte) (c : Bool),
      let v := if i = .rolAcc ∨ i = .rorAcc then s.a else operandOf i s
      ((i ∈ rolForms b w ∧ r = BitVec.ofNat 8 (2 * v.toNat + s.p.c.toNat) ∧ c = decide (128 ≤ v.toNat)) ∨
        (i ∈ rorForms b w ∧ r = BitVec.ofNat 8 (v.toNat / 2 + 128 * s.p.c.toNat) ∧ c = decide (v.toNat % 2 = 1))) →
      ∃ t, exec i s = .next t ∧ t.p = withNZ r { s.p with c := c } ∧
        (i ∈ rorForms b w → t.p.n = s.p.c) ∧
        if i = .rolAcc ∨ i = .rorAcc then t.regs = { s.regs with a := r } ∧ Straight i [] s t ∧ MemSame s t
        else t.regs = s.regs ∧ Straight i [.read (eaOf i s) v, .write (eaOf i s) r] s t ∧
          MemAfter [(eaOf i s, r)] s t

/-! ### Logic, compare, increment and decrement (44_logic_compare_incdec.md) -/

/-- AND (R170), ORA (R171), EOR (R172): `A` is combined with the operand, N and Z come from the result. Rests on the
spec's own choice D1 (log 9) and on logs 1, 3, 8, 11. -/
def Obligations.LogicCombinesA : Prop :=
  ∀ (b : Byte) (w : Word),
    (andForms b w).map (fun i => rowCode i.row) =
      ([(0x29, .imm, 2, false), (0x25, .zp, 3, false), (0x35, .zpx, 4, false), (0x2D, .abs, 4, false),
      (0x3D, .abx, 4, true), (0x39, .aby, 4, true), (0x21, .izx, 6, false), (0x31, .izy, 5, true)] : List Code) ∧
    (oraForms b w).map (fun i => rowCode i.row) =
      ([(0x09, .imm, 2, false), (0x05, .zp, 3, false), (0x15, .zpx, 4, false), (0x0D, .abs, 4, false),
      (0x1D, .abx, 4, true), (0x19, .aby, 4, true), (0x01, .izx, 6, false), (0x11, .izy, 5, true)] : List Code) ∧
    (eorForms b w).map (fun i => rowCode i.row) =
      ([(0x49, .imm, 2, false), (0x45, .zp, 3, false), (0x55, .zpx, 4, false), (0x4D, .abs, 4, false),
      (0x5D, .abx, 4, true), (0x59, .aby, 4, true), (0x41, .izx, 6, false), (0x51, .izy, 5, true)] : List Code) ∧
    ∀ (s : State) (i : Instr) (r : Byte),
      ((i ∈ andForms b w ∧ r = s.a &&& operandOf i s) ∨ (i ∈ oraForms b w ∧ r = s.a ||| operandOf i s) ∨
        (i ∈ eorForms b w ∧ r = s.a ^^^ operandOf i s)) →
      ∃ t, exec i s = .next t ∧ t.regs = { s.regs with a := r } ∧ t.p = withNZ r s.p ∧
        Straight i [.read (eaOf i s) (operandOf i s)] s t ∧ MemSame s t

/-- BIT (R173): Z from `A & m`, N and V from bits 7 and 6 of `m`; no register changes. Rests on the spec's own
choices D1, D18 (log 9) and on logs 1, 3, 8. -/
def Obligations.BitTestsMemory : Prop :=
  ∀ (b : Byte) (w : Word), (bitForms b w).map (fun i => rowCode i.row) =
      ([(0x24, .zp, 3, false), (0x2C, .abs, 4, false)] : List Code) ∧
    ∀ (s : State), ∀ i ∈ bitForms b w,
      let m := operandOf i s
      ∃ t, exec i s = .next t ∧ t.regs = s.regs ∧
        t.p = { s.p with z := s.a &&& m == 0, n := m.getLsbD 7, v := m.getLsbD 6 } ∧
        Straight i [.read (eaOf i s) m] s t ∧ MemSame s t

/-- The compare operation of CMP, CPX and CPY (R174): C says register at least operand (unsigned), N and Z come from
the difference, Z says that the two are equal; no register and no other flag changes. (DCP's use of it is in
DcpIscCombine, the encodings are in DispatchRows.) Rests on logs 1, 3, 8, 11. -/
def Obligations.ComparesSetFlags : Prop :=
  ∀ (b : Byte) (w : Word),
    ∀ (s : State) (i : Instr) (reg : Byte),
      ((i ∈ cmpForms b w ∧ reg = s.a) ∨ (i ∈ cpxForms b w ∧ reg = s.x) ∨ (i ∈ cpyForms b w ∧ reg = s.y)) →
      let m := operandOf i s
      ∃ t, exec i s = .next t ∧ t.regs = s.regs ∧
        t.p = withNZ (BitVec.ofNat 8 (reg.toNat + 256 - m.toNat)) { s.p with c := decide (m.toNat ≤ reg.toNat) } ∧
        (t.p.z = true ↔ reg = m) ∧ Straight i [.read (eaOf i s) m] s t ∧ MemSame s t

/-- The compare operation common to CMP, CPX, CPY and DCP (R174): C says register at least operand (unsigned), N and
Z come from the difference mod 256, Z says that the two are equal, the carry-in is not used, V, D and I stay; and the
four instructions leave exactly these flags, from their register and a byte they read, and every register as it was
(which byte DCP compares with is R241's, in DcpIscCombine). -/
def Obligations.CompareOperation : Prop :=
  (∀ (reg m : Byte) (p : Flags),
    compareFlags reg m p = withNZ (BitVec.ofNat 8 (reg.toNat + 256 - m.toNat)) { p with c := decide (m.toNat ≤ reg.toNat) } ∧
    ((compareFlags reg m p).z = true ↔ reg = m) ∧
    ∀ c : Bool, compareFlags reg m { p with c := c } = compareFlags reg m p) ∧
  ∀ (b : Byte) (w : Word) (s : State) (i : Instr) (reg : Byte),
    ((i ∈ cmpForms b w ++ dcpForms b w ∧ reg = s.a) ∨ (i ∈ cpxForms b w ∧ reg = s.x) ∨ (i ∈ cpyForms b w ∧ reg = s.y)) →
    ∃ t m, exec i s = .next t ∧ t.regs = s.regs ∧ t.p = compareFlags reg m s.p ∧
      (i ∉ dcpForms b w → m = operandOf i s)

/-- INC (R178) and DEC (R179): one read then one write of `EA`, mod 256, N and Z from the written byte. Rests on the
spec's own choice D1 (log 9) and on logs 1, 3, 8. -/
def Obligations.IncDecMemory : Prop :=
  ∀ (b : Byte) (w : Word),
    (incForms b w).map (fun i => rowCode i.row) =
      ([(0xE6, .zp, 5, false), (0xF6, .zpx, 6, false), (0xEE, .abs, 6, false), (0xFE, .abx, 7, false)] : List Code) ∧
    (decForms b w).map (fun i => rowCode i.row) =
      ([(0xC6, .zp, 5, false), (0xD6, .zpx, 6, false), (0xCE, .abs, 6, false), (0xDE, .abx, 7, false)] : List Code) ∧
    ∀ (s : State), Memory.wf s.mem → ∀ (i : Instr) (r : Byte),
      ((i ∈ incForms b w ∧ r = BitVec.ofNat 8 ((operandOf i s).toNat + 1)) ∨
        (i ∈ decForms b w ∧ r = BitVec.ofNat 8 ((operandOf i s).toNat + 255))) →
      ∃ t, exec i s = .next t ∧ t.regs = s.regs ∧ t.p = withNZ r s.p ∧
        Straight i [.read (eaOf i s) (operandOf i s), .write (eaOf i s) r] s t ∧ MemAfter [(eaOf i s, r)] s t

/-- INX INY DEX DEY (R180 to R183): mod 256, N and Z from the new value, no other flag. Rests on the spec's own
choices D1, D18 (log 9) and on logs 1, 3, 8. -/
def Obligations.IncDecRegister : Prop :=
  [Instr.inx, .iny, .dex, .dey].map (fun i => rowCode i.row) =
    ([(0xE8, .imp, 2, false), (0xC8, .imp, 2, false), (0xCA, .imp, 2, false), (0x88, .imp, 2, false)] : List Code) ∧
  ∀ (s : State),
    let x1 : Byte := BitVec.ofNat 8 (s.x.toNat + 1)
    let y1 : Byte := BitVec.ofNat 8 (s.y.toNat + 1)
    let x0 : Byte := BitVec.ofNat 8 (s.x.toNat + 255)
    let y0 : Byte := BitVec.ofNat 8 (s.y.toNat + 255)
    ∀ c ∈ [(Instr.inx, { s.regs with x := x1 }, x1), (.iny, { s.regs with y := y1 }, y1),
        (.dex, { s.regs with x := x0 }, x0), (.dey, { s.regs with y := y0 }, y0)],
      ∃ t, exec c.1 s = .next t ∧ t.regs = c.2.1 ∧ t.p = withNZ c.2.2 s.p ∧ Straight c.1 [] s t ∧ MemSame s t

/-! ### Branches, jumps, calls and returns (45_branch_jump.md) -/

/-- The eight branches (R190 to R198): the flag and polarity each tests; taken, `PC` is the target and the cost is 3,
or 4 on another page than the next instruction; not taken, 2. No register, no flag, no memory changes. Rests on the
spec's own choices D1, D18 (log 9) and on logs 1, 3, 8. -/
def Obligations.BranchesTestFlag : Prop :=
  ∀ (off : Byte), (branchForms off).map (fun i => rowCode i.row) =
      ([(0x10, .rel, 2, false), (0x30, .rel, 2, false), (0x50, .rel, 2, false), (0x70, .rel, 2, false),
       (0x90, .rel, 2, false), (0xB0, .rel, 2, false), (0xD0, .rel, 2, false), (0xF0, .rel, 2, false)] : List Code) ∧
    ∀ (s : State), ∀ c ∈ [(Instr.bpl off, s.p.n = false), (.bmi off, s.p.n = true), (.bvc off, s.p.v = false),
        (.bvs off, s.p.v = true), (.bcc off, s.p.c = false), (.bcs off, s.p.c = true), (.bne off, s.p.z = false),
        (.beq off, s.p.z = true)],
      ∃ t, exec c.1 s = .next t ∧ t.regs = s.regs ∧ t.p = s.p ∧ MemSame s t ∧ Booked c.1 s t ∧
        t.trace = [.read s.pc c.1.row.opcode, .read (s.pc + 1) off] ∧
        (c.2 → t.pc = s.pc + 2 + sext16 off ∧
          t.cycles = s.cycles + (if page (s.pc + 2 + sext16 off) = page (s.pc + 2) then 3 else 4)) ∧
        (¬ c.2 → t.pc = s.pc + 2 ∧ t.cycles = s.cycles + 2)

/-- JMP (R199) assigns `PC`; the Indirect form goes through the page-wrap bug (40_step_and_addressing.md R112): its
high byte comes from the same page. Rests on the spec's own choices D1, D5 (log 9) and on logs 1, 3, 8. -/
def Obligations.JmpAssignsPC : Prop :=
  ∀ (w : Word), (jmpForms w).map (fun i => rowCode i.row) =
      ([(0x4C, .abs, 3, false), (0x6C, .ind, 5, false)] : List Code) ∧
    ∀ (s : State), ∀ c ∈ [(Instr.jmpAbs w, w),
        (.jmpInd w, joinBytes (s.busByte 4 (joinBytes (hi8 w) (lo8 w + 1))) (s.busByte 3 w))],
      ∃ t, exec c.1 s = .next t ∧ t.pc = c.2 ∧ t.regs = s.regs ∧ t.p = s.p ∧ MemSame s t ∧ Booked c.1 s t ∧
        t.trace = fetchReads c.1 s ∧ t.cycles = s.cycles + c.1.row.base

/-- JSR (R200): pushes the address of its own third byte, high byte then low byte, and goes to its operand. Rests on
the spec's own choices D1, D4 (log 9) and on logs 1, 3, 8. -/
def Obligations.JsrPushesReturnAddress : Prop :=
  ∀ (w : Word), rowCode (Instr.jsrAbs w).row = (0x20, .abs, 6, false) ∧
    ∀ (s : State), Memory.wf s.mem → ∃ t, exec (.jsrAbs w) s = .next t ∧ t.pc = w ∧
      t.regs = { s.regs with sp := s.sp - 2 } ∧ t.p = s.p ∧ Booked (.jsrAbs w) s t ∧ t.cycles = s.cycles + 6 ∧
      t.trace = [.read s.pc 0x20, .read (s.pc + 1) (lo8 w), .read (s.pc + 2) (hi8 w),
        .write (stackAddr s.sp) (hi8 (s.pc + 2)), .write (stackAddr (s.sp - 1)) (lo8 (s.pc + 2))] ∧
      MemAfter [(stackAddr s.sp, hi8 (s.pc + 2)), (stackAddr (s.sp - 1), lo8 (s.pc + 2))] s t

/-- RTS (R201): pulls a word, low byte first, and adds 1. Rests on the spec's own choices D1, D4 (log 9) and on logs
1, 3, 8. -/
def Obligations.RtsPullsReturnAddress : Prop :=
  rowCode Instr.rts.row = (0x60, .imp, 6, false) ∧
    ∀ (s : State),
      let lo := s.busByte 1 (stackAddr (s.sp + 1))
      let hi := s.busByte 2 (stackAddr (s.sp + 2))
      ∃ t, exec .rts s = .next t ∧ t.pc = joinBytes hi lo + 1 ∧ t.regs = { s.regs with sp := s.sp + 2 } ∧
        t.p = s.p ∧ Booked .rts s t ∧ t.cycles = s.cycles + 6 ∧ MemSame s t ∧
        t.trace = [.read s.pc 0x60, .read (stackAddr (s.sp + 1)) lo, .read (stackAddr (s.sp + 2)) hi]

/-- A JSR and the RTS it reaches: over the flat RAM execution continues with the instruction after the JSR and `SP`
is as it was (R200, R201, R202). Rests on the spec's own choice D4 (log 9) and on log 1. -/
def Obligations.RtsUndoesJsr : Prop :=
  ∀ (s t u : State) (w : Word), Memory.wf s.mem → s.answers = [] → exec (.jsrAbs w) s = .next t → exec .rts t = .next u →
    u.pc = s.pc + 3 ∧ u.regs = s.regs ∧ u.p = s.p

/-! ### Stack, system and flags (46_stack_system_flags.md) -/

/-- The stack lies in page 1, a push writes and then decrements, a pull increments and then reads, both mod 256
(20_memory.md R58, 10_state.md R22). Rests on the spec's own choice D4 (log 9) and on logs 1, 8. -/
def Obligations.StackPrimitives : Prop :=
  (∀ sp : Byte, (stackAddr sp).toNat = 256 + sp.toNat) ∧
  (∀ (s : State) (v : Byte), s.push v =
    { s with mem := memWrite s.mem (256 + s.sp.toNat) v, sp := BitVec.ofNat 8 (s.sp.toNat + 255),
             trace := s.trace ++ [.write (stackAddr s.sp) v] }) ∧
  (∀ s : State, 
      s.pulled = s.answers[0]?.join.getD (memRead s.mem (256 + (s.sp.toNat + 1) % 256)) ∧ s.pull =
    { s with sp := BitVec.ofNat 8 (s.sp.toNat + 1), answers := s.answers.drop 1,
             trace := s.trace ++ [.read (stackAddr (s.sp + 1)) s.pulled] }) ∧
  (∀ (s : State) (w : Word), s.push16 w = (s.push (hi8 w)).push (lo8 w) ∧ s.pull16 = s.pull.pull ∧
    s.pulled16.toNat = s.pull.pulled.toNat * 256 + s.pulled.toNat)

/-- PHA (R210) pushes `A`; PHP (R212) pushes the flags byte with bits 5 and 4 both 1. No flag changes. Rests on the
spec's own choices D1, D2, D4 (log 9) and on logs 1, 3, 8. -/
def Obligations.PhaPhpPush : Prop :=
  [Instr.pha, .php].map (fun i => rowCode i.row) = ([(0x48, .imp, 3, false), (0x08, .imp, 3, false)] : List Code) ∧
  ∀ (s : State), Memory.wf s.mem → ∀ c ∈ [(Instr.pha, s.a), (.php, packP s.p ||| 0x30)],
    ∃ t, exec c.1 s = .next t ∧ t.regs = { s.regs with sp := s.sp - 1 } ∧ t.p = s.p ∧
      Straight c.1 [.write (stackAddr s.sp) c.2] s t ∧ MemAfter [(stackAddr s.sp, c.2)] s t

/-- PLA (R211) pulls `A` and sets N and Z; PLP (R213) pulls the six flags from bits 7 6 3 2 1 0 and ignores bits 5
and 4. Rests on the spec's own choices D1, D2, D4, D10, D19 (log 9) and on logs 1, 3, 8. -/
def Obligations.PlaPlpPull : Prop :=
  [Instr.pla, .plp].map (fun i => rowCode i.row) = ([(0x68, .imp, 4, false), (0x28, .imp, 4, false)] : List Code) ∧
  ∀ (s : State),
    let v := s.busByte 1 (stackAddr (s.sp + 1))
    (∃ t, exec .pla s = .next t ∧ t.regs = { s.regs with a := v, sp := s.sp + 1 } ∧ t.p = withNZ v s.p ∧
      Straight .pla [.read (stackAddr (s.sp + 1)) v] s t ∧ MemSame s t) ∧
    (∃ t, exec .plp s = .next t ∧ t.regs = { s.regs with sp := s.sp + 1 } ∧
      t.p = { n := v.getLsbD 7, v := v.getLsbD 6, d := v.getLsbD 3, i := v.getLsbD 2, z := v.getLsbD 1,
              c := v.getLsbD 0 } ∧
      packP t.p = (v &&& 0xCF) ||| 0x20 ∧
      Straight .plp [.read (stackAddr (s.sp + 1)) v] s t ∧ MemSame s t)

/-- The flags byte: `PackP` puts the six flags at bits 7 6 3 2 1 0 with bit 5 = 1 and bit 4 = 0 (10_state.md R31,
R30); `UnpackP` reads them back, and `PackP()` after `UnpackP(b)` equals `(b & 0xCF) | 0x20` (R32). Rests on the
spec's own choices D2, D10 (log 9). -/
def Obligations.FlagsByteLayout : Prop :=
  (∀ p : Flags, packP p = BitVec.ofNat 8 (p.n.toNat * 128 + p.v.toNat * 64 + 32 + p.d.toNat * 8 + p.i.toNat * 4 +
    p.z.toNat * 2 + p.c.toNat)) ∧
  (∀ p : Flags, unpackP (packP p) = p) ∧
  (∀ b : Byte, packP (unpackP b) = (b &&& 0xCF) ||| 0x20) ∧
  (∀ s : State, (snapshot s).flags.getLsbD 5 = true ∧ (snapshot s).flags.getLsbD 4 = false)

/-- "`PLP` applied immediately after `PHP` restores every flag bit", over the flat RAM, whatever happened to the
flags in between, and `SP` is as it was (R212, R213). Rests on the spec's own choice D4 (log 9) and on log 1. -/
def Obligations.PlpUndoesPhp : Prop :=
  ∀ (s t u : State) (p : Flags), Memory.wf s.mem → s.answers = [] → exec .php s = .next t → exec .plp { t with p := p } = .next u →
    u.p = s.p ∧ u.regs = s.regs ∧ packP u.p = packP s.p

/-- BRK (R214; 60_exceptions.md R278, R279): pushes its own address + 2, high byte then low byte, then the flags byte
from before with bits 5 and 4 set; sets `P.I` and no other flag; `PC` comes from 0xFFFE, little-endian; 7 cycles.
Rests on the spec's own choices D1, D2, D4, D5, D6 (log 9) and on logs 1, 3, 8. -/
def Obligations.BrkTakesException : Prop :=
  rowCode Instr.brk.row = (0x00, .imp, 7, false) ∧
  ∀ (s : State), Memory.wf s.mem → ∃ t, exec .brk s = .next t ∧
    t.pc = joinBytes (s.busByte 2 0xFFFF) (s.busByte 1 0xFFFE) ∧ t.regs = { s.regs with sp := s.sp - 3 } ∧
    t.p = { s.p with i := true } ∧ Booked .brk s t ∧ t.cycles = s.cycles + 7 ∧
    t.trace = [.read s.pc 0x00, .write (stackAddr s.sp) (hi8 (s.pc + 2)),
      .write (stackAddr (s.sp - 1)) (lo8 (s.pc + 2)), .write (stackAddr (s.sp - 2)) (packP s.p ||| 0x30),
      .read 0xFFFE (s.busByte 1 0xFFFE), .read 0xFFFF (s.busByte 2 0xFFFF)] ∧
    MemAfter [(stackAddr s.sp, hi8 (s.pc + 2)), (stackAddr (s.sp - 1), lo8 (s.pc + 2)),
      (stackAddr (s.sp - 2), packP s.p ||| 0x30)] s t

/-- RTI (R215; 60_exceptions.md R281): pulls the six flags, then `PC`, low byte first, with nothing added. Rests on
the spec's own choices D1, D2, D4, D5, D21 (log 9) and on logs 1, 3, 8. -/
def Obligations.RtiReturns : Prop :=
  rowCode Instr.rti.row = (0x40, .imp, 6, false) ∧
  ∀ (s : State),
    let f := s.busByte 1 (stackAddr (s.sp + 1))
    let lo := s.busByte 2 (stackAddr (s.sp + 2))
    let hi := s.busByte 3 (stackAddr (s.sp + 3))
    ∃ t, exec .rti s = .next t ∧ t.pc = joinBytes hi lo ∧ t.regs = { s.regs with sp := s.sp + 3 } ∧
      t.p = { n := f.getLsbD 7, v := f.getLsbD 6, d := f.getLsbD 3, i := f.getLsbD 2, z := f.getLsbD 1,
              c := f.getLsbD 0 } ∧
      Booked .rti s t ∧ t.cycles = s.cycles + 6 ∧ MemSame s t ∧
      t.trace = [.read s.pc 0x40, .read (stackAddr (s.sp + 1)) f, .read (stackAddr (s.sp + 2)) lo,
        .read (stackAddr (s.sp + 3)) hi]

/-- Traps are precise: over the flat RAM, RTI after a BRK, an IRQ or an NMI restores the flags (`P.I` among them),
the registers and `SP`, and continues at the pushed address, two bytes after the BRK opcode or where the interrupt
was taken (60_exceptions.md R279, R280, R281). Rests on the spec's own choices D4, D6, D7, D21 (log 9) and on log 1. -/
def Obligations.RtiUndoesEntry : Prop :=
  ∀ (s t u : State), Memory.wf s.mem → s.answers = [] → exec .rti t = .next u →
    (exec .brk s = .next t → u.pc = s.pc + 2 ∧ u.p = s.p ∧ u.regs = s.regs) ∧
    (t = triggerIRQ s ∨ t = triggerNMI s → u.pc = s.pc ∧ u.p = s.p ∧ u.regs = s.regs)

/-- The instructions that do nothing: NOP (R216), the 27 undocumented NOPs (47_illegal.md R260), the ten placeholders
(R245 to R255) and KIL (R264). Their resolver runs, and no register, no flag and no memory changes; KIL does not
halt. Rests on the spec's own choices D1, D8, D14, D18 (log 9) and on logs 1, 3, 8. -/
def Obligations.NoOpsDoNothing : Prop :=
  ∀ (b : Byte) (w : Word),
    (nopForms b w).map (fun i => rowCode i.row) =
      ([(0x1A, .imp, 2, false), (0x3A, .imp, 2, false), (0x5A, .imp, 2, false), (0x7A, .imp, 2, false),
      (0xDA, .imp, 2, false), (0xEA, .imp, 2, false), (0xFA, .imp, 2, false), (0x80, .imm, 2, false),
      (0x82, .imm, 2, false), (0x89, .imm, 2, false), (0xC2, .imm, 2, false), (0xE2, .imm, 2, false),
      (0x04, .zp, 3, false), (0x44, .zp, 3, false), (0x64, .zp, 3, false), (0x14, .zpx, 4, false),
      (0x34, .zpx, 4, false), (0x54, .zpx, 4, false), (0x74, .zpx, 4, false), (0xD4, .zpx, 4, false),
      (0xF4, .zpx, 4, false), (0x0C, .abs, 4, false), (0x1C, .abx, 4, true), (0x3C, .abx, 4, true),
      (0x5C, .abx, 4, true), (0x7C, .abx, 4, true), (0xDC, .abx, 4, true), (0xFC, .abx, 4, true)] : List Code) ∧
    (placeholderForms b w).map (fun i => rowCode i.row) =
      ([(0x0B, .imm, 2, false), (0x2B, .imm, 2, false), (0x4B, .imm, 2, false), (0x6B, .imm, 2, false),
      (0x8B, .imm, 2, false), (0xCB, .imm, 2, false), (0x9B, .aby, 5, false), (0x9C, .abx, 5, false),
      (0x9E, .aby, 5, false), (0x9F, .aby, 5, false), (0x93, .izy, 6, false), (0xBB, .aby, 4, true)] : List Code) ∧
    kilForms.map (fun i => rowCode i.row) =
      ([(0x02, .imp, 2, false), (0x12, .imp, 2, false), (0x22, .imp, 2, false), (0x32, .imp, 2, false),
      (0x42, .imp, 2, false), (0x52, .imp, 2, false), (0x62, .imp, 2, false), (0x72, .imp, 2, false),
      (0x92, .imp, 2, false), (0xB2, .imp, 2, false), (0xD2, .imp, 2, false), (0xF2, .imp, 2, false)] : List Code) ∧
    ∀ (s : State), ∀ i ∈ nopForms b w ++ placeholderForms b w ++ kilForms,
      ∃ t, exec i s = .next t ∧ t.regs = s.regs ∧ t.p = s.p ∧ Straight i [] s t ∧ MemSame s t

/-- CLC SEC CLI SEI CLV CLD SED (R217 to R223): "single-bit set/clear; no N/Z side effect". Rests on the spec's own
choices D1, D18 (log 9) and on logs 1, 3, 8. -/
def Obligations.FlagInstructions : Prop :=
  [Instr.clc, .sec, .cli, .sei, .clv, .cld, .sed].map (fun i => rowCode i.row) =
    ([(0x18, .imp, 2, false), (0x38, .imp, 2, false), (0x58, .imp, 2, false), (0x78, .imp, 2, false),
     (0xB8, .imp, 2, false), (0xD8, .imp, 2, false), (0xF8, .imp, 2, false)] : List Code) ∧
  ∀ (s : State), ∀ c ∈ [(Instr.clc, { s.p with c := false }), (.sec, { s.p with c := true }),
      (.cli, { s.p with i := false }), (.sei, { s.p with i := true }), (.clv, { s.p with v := false }),
      (.cld, { s.p with d := false }), (.sed, { s.p with d := true })],
    ∃ t, exec c.1 s = .next t ∧ t.regs = s.regs ∧ t.p = c.2 ∧ Straight c.1 [] s t ∧ MemSame s t

/-! ### The undocumented composites (47_illegal.md) -/

/-- SLO (R237), RLA (R238), SRE (R239): the shift or rotate of the memory byte, written back and read again, then
combined with `A`; C from the shift, N and Z from the final `A`. The Bus sees read, write, read of `EA` (R236). Rests
on the spec's own choices D1, D12, D19 (log 9) and on logs 1, 3, 8. -/
def Obligations.SloRlaSreCombine : Prop :=
  ∀ (b : Byte) (w : Word),
    (sloForms b w).map (fun i => rowCode i.row) =
      ([(0x07, .zp, 5, false), (0x17, .zpx, 6, false), (0x0F, .abs, 6, false), (0x1F, .abx, 7, false),
      (0x1B, .aby, 7, false), (0x03, .izx, 8, false), (0x13, .izy, 8, false)] : List Code) ∧
    (rlaForms b w).map (fun i => rowCode i.row) =
      ([(0x27, .zp, 5, false), (0x37, .zpx, 6, false), (0x2F, .abs, 6, false), (0x3F, .abx, 7, false),
      (0x3B, .aby, 7, false), (0x23, .izx, 8, false), (0x33, .izy, 8, false)] : List Code) ∧
    (sreForms b w).map (fun i => rowCode i.row) =
      ([(0x47, .zp, 5, false), (0x57, .zpx, 6, false), (0x4F, .abs, 6, false), (0x5F, .abx, 7, false),
      (0x5B, .aby, 7, false), (0x43, .izx, 8, false), (0x53, .izy, 8, false)] : List Code) ∧
    ∀ (s : State), Memory.wf s.mem → ∀ (i : Instr) (r a : Byte) (c : Bool),
      let v := operandOf i s
      ((i ∈ sloForms b w ∧ r = BitVec.ofNat 8 (2 * v.toNat) ∧ a = s.a ||| rereadOf i s r ∧ c = decide (128 ≤ v.toNat)) ∨
        (i ∈ rlaForms b w ∧ r = BitVec.ofNat 8 (2 * v.toNat + s.p.c.toNat) ∧ a = s.a &&& rereadOf i s r ∧
          c = decide (128 ≤ v.toNat)) ∨
        (i ∈ sreForms b w ∧ r = BitVec.ofNat 8 (v.toNat / 2) ∧ a = s.a ^^^ rereadOf i s r ∧ c = decide (v.toNat % 2 = 1))) →
      ∃ t, exec i s = .next t ∧ t.regs = { s.regs with a := a } ∧ t.p = withNZ a { s.p with c := c } ∧
        Straight i [.read (eaOf i s) v, .write (eaOf i s) r, .read (eaOf i s) (rereadOf i s r)] s t ∧
        MemAfter [(eaOf i s, r)] s t

/-- RRA (R240): ROR of the memory byte, then ADC of the rotated byte with the rotate's carry. Rests on the spec's own
choices D1, D3, D12, D19 (log 9) and on logs 1, 3, 8. -/
def Obligations.RraRotatesAndAdds : Prop :=
  ∀ (b : Byte) (w : Word), (rraForms b w).map (fun i => rowCode i.row) =
      ([(0x67, .zp, 5, false), (0x77, .zpx, 6, false), (0x6F, .abs, 6, false), (0x7F, .abx, 7, false),
      (0x7B, .aby, 7, false), (0x63, .izx, 8, false), (0x73, .izy, 8, false)] : List Code) ∧
    ∀ (s : State), Memory.wf s.mem → ∀ i ∈ rraForms b w,
      let v := operandOf i s
      let r : Byte := BitVec.ofNat 8 (v.toNat / 2 + 128 * s.p.c.toNat)
      let m := rereadOf i s r
      let sum := s.a.toNat + m.toNat + v.toNat % 2
      let signed : Int := s.a.toInt + m.toInt + (v.toNat % 2 : Nat)
      let a : Byte := BitVec.ofNat 8 (sum % 256)
      ∃ t, exec i s = .next t ∧ t.regs = { s.regs with a := a } ∧
        t.p = withNZ a { s.p with c := decide (sum > 255), v := decide (signed < -128 ∨ 127 < signed) } ∧
        Straight i [.read (eaOf i s) v, .write (eaOf i s) r, .read (eaOf i s) (rereadOf i s r)] s t ∧
        MemAfter [(eaOf i s, r)] s t

/-- DCP (R241): DEC of the memory byte, then CMP of `A` with it; ISC (R242): INC, then SBC with the carry from
before. Rests on the spec's own choices D1, D3, D12, D19 (log 9) and on logs 1, 3, 8. -/
def Obligations.DcpIscCombine : Prop :=
  ∀ (b : Byte) (w : Word),
    (dcpForms b w).map (fun i => rowCode i.row) =
      ([(0xC7, .zp, 5, false), (0xD7, .zpx, 6, false), (0xCF, .abs, 6, false), (0xDF, .abx, 7, false),
      (0xDB, .aby, 7, false), (0xC3, .izx, 8, false), (0xD3, .izy, 8, false)] : List Code) ∧
    (iscForms b w).map (fun i => rowCode i.row) =
      ([(0xE7, .zp, 5, false), (0xF7, .zpx, 6, false), (0xEF, .abs, 6, false), (0xFF, .abx, 7, false),
      (0xFB, .aby, 7, false), (0xE3, .izx, 8, false), (0xF3, .izy, 8, false)] : List Code) ∧
    ∀ (s : State), Memory.wf s.mem →
      (∀ i ∈ dcpForms b w,
        let v := operandOf i s
        let r : Byte := BitVec.ofNat 8 (v.toNat + 255)
        let m := rereadOf i s r
        ∃ t, exec i s = .next t ∧ t.regs = s.regs ∧
          t.p = withNZ (BitVec.ofNat 8 (s.a.toNat + 256 - m.toNat)) { s.p with c := decide (m.toNat ≤ s.a.toNat) } ∧
          Straight i [.read (eaOf i s) v, .write (eaOf i s) r, .read (eaOf i s) (rereadOf i s r)] s t ∧
          MemAfter [(eaOf i s, r)] s t) ∧
      (∀ i ∈ iscForms b w,
        let v := operandOf i s
        let r : Byte := BitVec.ofNat 8 (v.toNat + 1)
        let m := rereadOf i s r
        let borrow : Int := 1 - s.p.c.toNat
        let diff : Int := (s.a.toNat : Int) - m.toNat - borrow
        let signed : Int := s.a.toInt - m.toInt - borrow
        ∃ t, exec i s = .next t ∧ t.regs = { s.regs with a := BitVec.ofInt 8 diff } ∧
          t.p = withNZ (BitVec.ofInt 8 diff)
            { s.p with c := decide (0 ≤ diff), v := decide (signed < -128 ∨ 127 < signed) } ∧
          Straight i [.read (eaOf i s) v, .write (eaOf i s) r, .read (eaOf i s) (rereadOf i s r)] s t ∧
          MemAfter [(eaOf i s, r)] s t)

/-- LAX (R243) loads one byte into `A` and `X`; SAX (R244) writes `A & X` and changes no flag. Rests on the spec's
own choices D1, D13 (log 9) and on logs 1, 3, 8, 11. -/
def Obligations.LaxSaxMove : Prop :=
  ∀ (b : Byte) (w : Word),
    (laxForms b w).map (fun i => rowCode i.row) =
      ([(0xAB, .imm, 2, false), (0xA7, .zp, 3, false), (0xB7, .zpy, 4, false), (0xAF, .abs, 4, false),
      (0xBF, .aby, 4, true), (0xA3, .izx, 6, false), (0xB3, .izy, 5, true)] : List Code) ∧
    (saxForms b w).map (fun i => rowCode i.row) =
      ([(0x87, .zp, 3, false), (0x97, .zpy, 4, false), (0x8F, .abs, 4, false), (0x83, .izx, 6, false)] : List Code) ∧
    ∀ (s : State),
      (∀ i ∈ laxForms b w, ∃ t, exec i s = .next t ∧
        t.regs = { s.regs with a := operandOf i s, x := operandOf i s } ∧ t.p = withNZ (operandOf i s) s.p ∧
        Straight i [.read (eaOf i s) (operandOf i s)] s t ∧ MemSame s t) ∧
      (Memory.wf s.mem → ∀ i ∈ saxForms b w, ∃ t, exec i s = .next t ∧ t.regs = s.regs ∧ t.p = s.p ∧
        Straight i [.write (eaOf i s) (s.a &&& s.x)] s t ∧ MemAfter [(eaOf i s, s.a &&& s.x)] s t)

/-! ### The snapshot (10_state.md) -/

/-- The diagnostic snapshot (R44) is `A`, `X`, `Y`, `SP`, `PC`, `PackP()`, `CycleCounter`, `LastOpcode`,
`CurrentMode`: two states have one snapshot exactly when they agree in these, the six flags included. `EA` is not in
it. (It is a function of the state, so reading it changes nothing.) -/
def Obligations.SnapshotShowsState : Prop :=
  (∀ s : State, snapshot s =
    { a := s.a, x := s.x, y := s.y, sp := s.sp, pc := s.pc, flags := packP s.p, cycles := s.cycles,
      lastOpcode := s.lastOpcode, mode := s.mode }) ∧
  (∀ s t : State, snapshot s = snapshot t ↔ s.regs = t.regs ∧ s.pc = t.pc ∧ s.p = t.p ∧ s.cycles = t.cycles ∧
    s.lastOpcode = t.lastOpcode ∧ s.mode = t.mode) ∧
  (∀ (s : State) (ea : Word), snapshot { s with ea := ea } = snapshot s)

/-! ### Reset, interrupts and the host (60_exceptions.md, 70_reset_and_hazards.md) -/

/-- `reset()` (R300): flags 0x24, `A = X = Y = 0`, `SP = 0xFD`, `PC` from 0xFFFC, the counter 0; two reads, nothing
written; `CurrentMode`, `EA`, `LastOpcode` and memory as they were. It depends on nothing but the Bus. Rests on the
spec's own choices D5, D9, D17 (log 9) and on logs 1, 7, 8. -/
def Obligations.ResetLeaves : Prop :=
  ∀ (s : State), ∃ t, hostCall .reset s = .next t ∧ packP t.p = 0x24 ∧
    t.p = { n := false, v := false, d := false, i := true, z := false, c := false } ∧
    t.regs = { a := 0, x := 0, y := 0, sp := 0xFD } ∧
    t.pc = joinBytes (s.busByte 1 0xFFFD) (s.busByte 0 0xFFFC) ∧ t.cycles = 0 ∧
    t.trace = [.read 0xFFFC (s.busByte 0 0xFFFC), .read 0xFFFD (s.busByte 1 0xFFFD)] ∧
    t.mem = s.mem ∧ t.answers = s.answers.drop 2 ∧ t.mode = s.mode ∧ t.ea = s.ea ∧ t.lastOpcode = s.lastOpcode ∧
    t.live = true ∧ t.calls = s.calls ∧ t.sentinels = s.sentinels

/-- The model's reset state holds what R42 gives for reset, and is what `reset()` leaves over empty memory. (Its
`CurrentMode`, `EA`, `LastOpcode` and memory contents are the model's choices, logs 2 and 4, and not stated here.)
Rests on the spec's own choice D9 (log 9) and on logs 2, 4, 12. -/
def Obligations.ResetStateHoldsSpecValues : Prop :=
  State.reset.regs = { a := 0, x := 0, y := 0, sp := 0xFD } ∧ packP State.reset.p = 0x24 ∧
  State.reset.pc = joinBytes (State.reset.byteAt 0xFFFD) (State.reset.byteAt 0xFFFC) ∧ State.reset.cycles = 0 ∧
  hostCall .reset State.reset = .next State.reset

/-- `triggerIRQ()` (R273) and `triggerNMI()` (R274): push `PC`, high byte then low byte, with nothing added, push the
flags byte from before with bits 5 and 4 set, set `P.I`, load `PC` from 0xFFFE or 0xFFFA; 7 cycles; whatever `P.I`
held (R275). Registers, the other flags, `LastOpcode`, `CurrentMode` and `EA` are unchanged. Rests on the spec's own
choices D2, D4, D5, D7, D17 (log 9) and on logs 1, 8. -/
def Obligations.InterruptEntry : Prop :=
  ∀ (s : State), s.live = true → Memory.wf s.mem →
    ∀ c ∈ [(HostCall.irq, (0xFFFE : Word)), (.nmi, 0xFFFA)], ∃ t, hostCall c.1 s = .next t ∧
      t.pc = joinBytes (s.busByte 1 (c.2 + 1)) (s.busByte 0 c.2) ∧ t.regs = { s.regs with sp := s.sp - 3 } ∧
      t.p = { s.p with i := true } ∧ t.cycles = s.cycles + 7 ∧
      t.trace = [.write (stackAddr s.sp) (hi8 s.pc), .write (stackAddr (s.sp - 1)) (lo8 s.pc),
        .write (stackAddr (s.sp - 2)) (packP s.p ||| 0x30), .read c.2 (s.busByte 0 c.2),
        .read (c.2 + 1) (s.busByte 1 (c.2 + 1))] ∧
      MemAfter [(stackAddr s.sp, hi8 s.pc), (stackAddr (s.sp - 1), lo8 s.pc),
        (stackAddr (s.sp - 2), packP s.p ||| 0x30)] s t ∧
      t.mode = s.mode ∧ t.ea = s.ea ∧ t.lastOpcode = s.lastOpcode ∧ t.live = s.live ∧ t.calls = s.calls ∧
      t.sentinels = s.sentinels ∧ t.answers = s.answers.drop 2

/-- The host's calls are performed one at a time in the host's order, a host write to the flat RAM changes that one
byte, the answers it settles for the Bus's coming reads are the ones given, and neither changes CPU state (R304,
20_memory.md R66; the list and the meaning of an empty list are the model's, log 6). Rests on the spec's own choices
D16, D20 (log 9) and on logs 1, 6, 7. -/
def Obligations.HostCallsInOrder : Prop :=
  (∀ (s : State) (c : HostCall) (cs : List HostCall), s.calls = c :: cs → step s = hostCall c { s with calls := cs }) ∧
  (∀ (s : State) (a : Word) (v : Byte), Memory.wf s.mem → ∃ t, hostCall (.busSet a v) s = .next t ∧
    MemAfter [(a, v)] s t ∧ snapshot t = snapshot s ∧ t.ea = s.ea ∧ t.trace = [] ∧ t.live = s.live ∧
    t.answers = s.answers) ∧
  (∀ (s : State) (l : List BusAnswer), ∃ t, hostCall (.busAnswers l) s = .next t ∧ t.answers = l ∧ t.mem = s.mem ∧
    snapshot t = snapshot s ∧ t.ea = s.ea ∧ t.trace = [] ∧ t.live = s.live) ∧
  (∀ s : State, ∃ t, hostCall .init s = .next t ∧ t.mem = s.mem ∧ t.answers = s.answers ∧ t.trace = [])

/-! ### The whole machine -/

/-- Every step keeps the invariant: memory stays in its canonical form, and a call makes at most seven Bus accesses.
Rests on logs 1, 2, 6, 8. -/
def Obligations.StepKeepsInvariant : Prop :=
  ∀ (s t : State), Inv s → step s = .next t → Inv t

/-- The reset state meets the invariant. Rests on logs 1, 2, 8. -/
def Obligations.ResetMeetsInvariant : Prop := Inv State.reset

/-- The Bus is the read oracle and write sink of the core (20_memory.md R50, R52, R61): run the accesses of one
entry-point call, in their order, on the flat RAM and the host's answers the call began with, and every read returned
the host's answer, else what the RAM held at that moment, every write landed, and what is left is the state's. And
whatever instruction `exec` runs, it uses one answer for each read, and the flat RAM changes only where the
instruction wrote it, to the byte written last. Rests on the spec's own choices D12, D20 (log 9) and on logs 1, 8,
11. -/
def Obligations.BusAnswersReadsAndTakesWrites : Prop :=
  (∀ (s t : State), ∀ c ∈ ([.step, .irq, .nmi, .reset, .init] : List HostCall), hostCall c s = .next t →
    busRun s.mem s.answers t.trace = some (t.mem, t.answers)) ∧
  (∀ (i : Instr) (s t : State), exec i s = .next t → t.answers = s.answers.drop (readCount t.trace) ∧
    (Memory.wf s.mem → ∀ a : Word, t.byteAt a = lastWritten t.trace a (s.byteAt a)))

/-- Which instructions can change which flag (10_state.md R45, with R26 to R34): any other leaves it as it was. Rests
on the spec's own choices D18, D19 (log 9). -/
def Obligations.FlagsWrittenOnlyBy : Prop :=
  ∀ (i : Instr) (s t : State), exec i s = .next t →
    (t.p.d ≠ s.p.d → i ∈ [.cld, .sed, .plp, .rti]) ∧
    (t.p.i ≠ s.p.i → i ∈ [.cli, .sei, .brk, .plp, .rti]) ∧
    (t.p.v ≠ s.p.v → ∃ b w, i ∈ [.clv, .plp, .rti] ++ adcForms b w ++ sbcForms b w ++ rraForms b w ++ iscForms b w ++
      bitForms b w) ∧
    (t.p.c ≠ s.p.c → ∃ b w, i ∈ [.clc, .sec, .plp, .rti] ++ aslForms b w ++ lsrForms b w ++ rolForms b w ++
      rorForms b w ++ cmpForms b w ++ cpxForms b w ++ cpyForms b w ++ sloForms b w ++ rlaForms b w ++ sreForms b w ++
      dcpForms b w ++ adcForms b w ++ sbcForms b w ++ rraForms b w ++ iscForms b w) ∧
    (t.p.n ≠ s.p.n ∨ t.p.z ≠ s.p.z → ∀ b w, i ∉ [.clc, .sec, .cli, .sei, .clv, .cld, .sed, .brk, .txs, .pha, .php,
      .rts, .jsrAbs w] ++ staForms b w ++ stxForms b w ++ styForms b w ++ saxForms b w ++ jmpForms w ++ branchForms b ++
      nopForms b w ++ placeholderForms b w ++ kilForms)

/-- Who moves `SP` and `PC`: `SP` changes only by the stack instructions and TXS (10_state.md R22), and every
instruction that is no control transfer leaves `PC` at the next instruction in memory (R24). Rests on the spec's own
choice D18 (log 9). -/
def Obligations.StackAndProgramCounterMovers : Prop :=
  ∀ (i : Instr) (s t : State), exec i s = .next t →
    (t.sp ≠ s.sp → ∃ w, i ∈ [.pha, .php, .pla, .plp, .jsrAbs w, .rts, .brk, .rti, .txs]) ∧
    (t.pc ≠ s.pc + BitVec.ofNat 16 i.length →
      ∃ b w, i ∈ branchForms b ++ jmpForms w ++ [.jsrAbs w, .rts, .rti, .brk])

/-- Timing never affects an architectural result: two states that differ in `CycleCounter` alone step to states that
differ in `CycleCounter` alone, and cost the same (70_reset_and_hazards.md R315, 10_state.md R35). Rests on the
spec's own choice D9 (log 9). -/
def Obligations.TimingIsOutputOnly : Prop :=
  ∀ (i : Instr) (s t : State) (k : Nat), exec i s = .next t →
    exec i { s with cycles := s.cycles + k } = .next { t with cycles := t.cycles + k }

/-- Nothing reads `LastOpcode`, the old `CurrentMode`, the old `EA` or the trace of the call before: what they hold
when an instruction starts makes no difference to any state it leaves (10_state.md R36, R37, R38,
40_step_and_addressing.md R118). Rests on the spec's own choice D17 (log 9) and on log 8. -/
def Obligations.ScratchStateUnread : Prop :=
  ∀ (i : Instr) (s : State) (op : Byte) (m : Mode) (ea : Word) (tr : List Access),
    exec i { s with lastOpcode := op, mode := m, ea := ea, trace := tr } = exec i s

/-- Self-modifying code needs no precaution: whatever instruction ran, the fetch of the very next one decodes, at
each of its three addresses, the byte written there last, where the flat RAM answers those reads (20_memory.md R64,
70_reset_and_hazards.md R312). Rests on the spec's own choice D5 (log 9) and on logs 1, 11. -/
def Obligations.FetchSeesStore : Prop :=
  ∀ (i : Instr) (s t : State), Memory.wf s.mem → exec i s = .next t → (∀ k < 3, t.answers[k]?.join = none) →
    fetchInstr t = decode (lastWritten t.trace t.pc (s.byteAt t.pc))
      (lastWritten t.trace (t.pc + 1) (s.byteAt (t.pc + 1))) (lastWritten t.trace (t.pc + 2) (s.byteAt (t.pc + 2)))
end

