-- ==== Sys2Proof/Laws/Dispatch.lean ====
section
/-! SUPPORT. Which handler each instruction's forms run: `exec` unfolded once, for every form of each mnemonic, and the
list of all forms complete. Later proofs cite these lemmas and reason about `perform` and one handler. -/

namespace Sys2Proof.Machine

/-- Every form of LDA runs its handler. -/
theorem exec_ldaForms (b : Byte) (w : Word) (s : State) (i : Instr) (h : i ∈ ldaForms b w) :
    exec i s = perform i handleLda s := by
  simp only [ldaForms, List.mem_cons, List.not_mem_nil, or_false] at h
  rcases h with rfl | rfl | rfl | rfl | rfl | rfl | rfl | rfl <;> rfl

/-- Every form of LDX runs its handler. -/
theorem exec_ldxForms (b : Byte) (w : Word) (s : State) (i : Instr) (h : i ∈ ldxForms b w) :
    exec i s = perform i handleLdx s := by
  simp only [ldxForms, List.mem_cons, List.not_mem_nil, or_false] at h
  rcases h with rfl | rfl | rfl | rfl | rfl <;> rfl

/-- Every form of LDY runs its handler. -/
theorem exec_ldyForms (b : Byte) (w : Word) (s : State) (i : Instr) (h : i ∈ ldyForms b w) :
    exec i s = perform i handleLdy s := by
  simp only [ldyForms, List.mem_cons, List.not_mem_nil, or_false] at h
  rcases h with rfl | rfl | rfl | rfl | rfl <;> rfl

/-- Every form of STA runs its handler. -/
theorem exec_staForms (b : Byte) (w : Word) (s : State) (i : Instr) (h : i ∈ staForms b w) :
    exec i s = perform i handleSta s := by
  simp only [staForms, List.mem_cons, List.not_mem_nil, or_false] at h
  rcases h with rfl | rfl | rfl | rfl | rfl | rfl | rfl <;> rfl

/-- Every form of STX runs its handler. -/
theorem exec_stxForms (b : Byte) (w : Word) (s : State) (i : Instr) (h : i ∈ stxForms b w) :
    exec i s = perform i handleStx s := by
  simp only [stxForms, List.mem_cons, List.not_mem_nil, or_false] at h
  rcases h with rfl | rfl | rfl <;> rfl

/-- Every form of STY runs its handler. -/
theorem exec_styForms (b : Byte) (w : Word) (s : State) (i : Instr) (h : i ∈ styForms b w) :
    exec i s = perform i handleSty s := by
  simp only [styForms, List.mem_cons, List.not_mem_nil, or_false] at h
  rcases h with rfl | rfl | rfl <;> rfl

/-- Every form of ADC runs its handler. -/
theorem exec_adcForms (b : Byte) (w : Word) (s : State) (i : Instr) (h : i ∈ adcForms b w) :
    exec i s = perform i handleAdc s := by
  simp only [adcForms, List.mem_cons, List.not_mem_nil, or_false] at h
  rcases h with rfl | rfl | rfl | rfl | rfl | rfl | rfl | rfl <;> rfl

/-- Every form of SBC runs its handler. -/
theorem exec_sbcForms (b : Byte) (w : Word) (s : State) (i : Instr) (h : i ∈ sbcForms b w) :
    exec i s = perform i handleSbc s := by
  simp only [sbcForms, List.mem_cons, List.not_mem_nil, or_false] at h
  rcases h with rfl | rfl | rfl | rfl | rfl | rfl | rfl | rfl | rfl <;> rfl

/-- Every form of ASL runs its handler. -/
theorem exec_aslForms (b : Byte) (w : Word) (s : State) (i : Instr) (h : i ∈ aslForms b w) :
    exec i s = perform i (handleShift aslFn) s := by
  simp only [aslForms, List.mem_cons, List.not_mem_nil, or_false] at h
  rcases h with rfl | rfl | rfl | rfl | rfl <;> rfl

/-- Every form of LSR runs its handler. -/
theorem exec_lsrForms (b : Byte) (w : Word) (s : State) (i : Instr) (h : i ∈ lsrForms b w) :
    exec i s = perform i (handleShift lsrFn) s := by
  simp only [lsrForms, List.mem_cons, List.not_mem_nil, or_false] at h
  rcases h with rfl | rfl | rfl | rfl | rfl <;> rfl

/-- Every form of ROL runs its handler. -/
theorem exec_rolForms (b : Byte) (w : Word) (s : State) (i : Instr) (h : i ∈ rolForms b w) :
    exec i s = perform i (handleShift rolFn) s := by
  simp only [rolForms, List.mem_cons, List.not_mem_nil, or_false] at h
  rcases h with rfl | rfl | rfl | rfl | rfl <;> rfl

/-- Every form of ROR runs its handler. -/
theorem exec_rorForms (b : Byte) (w : Word) (s : State) (i : Instr) (h : i ∈ rorForms b w) :
    exec i s = perform i (handleShift rorFn) s := by
  simp only [rorForms, List.mem_cons, List.not_mem_nil, or_false] at h
  rcases h with rfl | rfl | rfl | rfl | rfl <;> rfl

/-- Every form of AND runs its handler. -/
theorem exec_andForms (b : Byte) (w : Word) (s : State) (i : Instr) (h : i ∈ andForms b w) :
    exec i s = perform i handleAnd s := by
  simp only [andForms, List.mem_cons, List.not_mem_nil, or_false] at h
  rcases h with rfl | rfl | rfl | rfl | rfl | rfl | rfl | rfl <;> rfl

/-- Every form of ORA runs its handler. -/
theorem exec_oraForms (b : Byte) (w : Word) (s : State) (i : Instr) (h : i ∈ oraForms b w) :
    exec i s = perform i handleOra s := by
  simp only [oraForms, List.mem_cons, List.not_mem_nil, or_false] at h
  rcases h with rfl | rfl | rfl | rfl | rfl | rfl | rfl | rfl <;> rfl

/-- Every form of EOR runs its handler. -/
theorem exec_eorForms (b : Byte) (w : Word) (s : State) (i : Instr) (h : i ∈ eorForms b w) :
    exec i s = perform i handleEor s := by
  simp only [eorForms, List.mem_cons, List.not_mem_nil, or_false] at h
  rcases h with rfl | rfl | rfl | rfl | rfl | rfl | rfl | rfl <;> rfl

/-- Every form of BIT runs its handler. -/
theorem exec_bitForms (b : Byte) (w : Word) (s : State) (i : Instr) (h : i ∈ bitForms b w) :
    exec i s = perform i handleBit s := by
  simp only [bitForms, List.mem_cons, List.not_mem_nil, or_false] at h
  rcases h with rfl | rfl <;> rfl

/-- Every form of CMP runs its handler. -/
theorem exec_cmpForms (b : Byte) (w : Word) (s : State) (i : Instr) (h : i ∈ cmpForms b w) :
    exec i s = perform i handleCmp s := by
  simp only [cmpForms, List.mem_cons, List.not_mem_nil, or_false] at h
  rcases h with rfl | rfl | rfl | rfl | rfl | rfl | rfl | rfl <;> rfl

/-- Every form of CPX runs its handler. -/
theorem exec_cpxForms (b : Byte) (w : Word) (s : State) (i : Instr) (h : i ∈ cpxForms b w) :
    exec i s = perform i handleCpx s := by
  simp only [cpxForms, List.mem_cons, List.not_mem_nil, or_false] at h
  rcases h with rfl | rfl | rfl <;> rfl

/-- Every form of CPY runs its handler. -/
theorem exec_cpyForms (b : Byte) (w : Word) (s : State) (i : Instr) (h : i ∈ cpyForms b w) :
    exec i s = perform i handleCpy s := by
  simp only [cpyForms, List.mem_cons, List.not_mem_nil, or_false] at h
  rcases h with rfl | rfl | rfl <;> rfl

/-- Every form of INC runs its handler. -/
theorem exec_incForms (b : Byte) (w : Word) (s : State) (i : Instr) (h : i ∈ incForms b w) :
    exec i s = perform i handleInc s := by
  simp only [incForms, List.mem_cons, List.not_mem_nil, or_false] at h
  rcases h with rfl | rfl | rfl | rfl <;> rfl

/-- Every form of DEC runs its handler. -/
theorem exec_decForms (b : Byte) (w : Word) (s : State) (i : Instr) (h : i ∈ decForms b w) :
    exec i s = perform i handleDec s := by
  simp only [decForms, List.mem_cons, List.not_mem_nil, or_false] at h
  rcases h with rfl | rfl | rfl | rfl <;> rfl

/-- Every form of JMP runs its handler. -/
theorem exec_jmpForms (w : Word) (s : State) (i : Instr) (h : i ∈ jmpForms w) :
    exec i s = perform i handleJmp s := by
  simp only [jmpForms, List.mem_cons, List.not_mem_nil, or_false] at h
  rcases h with rfl | rfl <;> rfl

/-- Every form of NOP runs its handler. -/
theorem exec_nopForms (b : Byte) (w : Word) (s : State) (i : Instr) (h : i ∈ nopForms b w) :
    exec i s = perform i handleNothing s := by
  simp only [nopForms, List.mem_cons, List.not_mem_nil, or_false] at h
  rcases h with rfl | rfl | rfl | rfl | rfl | rfl | rfl | rfl | rfl | rfl | rfl | rfl | rfl | rfl | rfl | rfl | rfl | rfl | rfl | rfl | rfl | rfl | rfl | rfl | rfl | rfl | rfl | rfl <;> rfl

/-- Every form of SLO runs its handler. -/
theorem exec_sloForms (b : Byte) (w : Word) (s : State) (i : Instr) (h : i ∈ sloForms b w) :
    exec i s = perform i handleSlo s := by
  simp only [sloForms, List.mem_cons, List.not_mem_nil, or_false] at h
  rcases h with rfl | rfl | rfl | rfl | rfl | rfl | rfl <;> rfl

/-- Every form of RLA runs its handler. -/
theorem exec_rlaForms (b : Byte) (w : Word) (s : State) (i : Instr) (h : i ∈ rlaForms b w) :
    exec i s = perform i handleRla s := by
  simp only [rlaForms, List.mem_cons, List.not_mem_nil, or_false] at h
  rcases h with rfl | rfl | rfl | rfl | rfl | rfl | rfl <;> rfl

/-- Every form of SRE runs its handler. -/
theorem exec_sreForms (b : Byte) (w : Word) (s : State) (i : Instr) (h : i ∈ sreForms b w) :
    exec i s = perform i handleSre s := by
  simp only [sreForms, List.mem_cons, List.not_mem_nil, or_false] at h
  rcases h with rfl | rfl | rfl | rfl | rfl | rfl | rfl <;> rfl

/-- Every form of RRA runs its handler. -/
theorem exec_rraForms (b : Byte) (w : Word) (s : State) (i : Instr) (h : i ∈ rraForms b w) :
    exec i s = perform i handleRra s := by
  simp only [rraForms, List.mem_cons, List.not_mem_nil, or_false] at h
  rcases h with rfl | rfl | rfl | rfl | rfl | rfl | rfl <;> rfl

/-- Every form of DCP runs its handler. -/
theorem exec_dcpForms (b : Byte) (w : Word) (s : State) (i : Instr) (h : i ∈ dcpForms b w) :
    exec i s = perform i handleDcp s := by
  simp only [dcpForms, List.mem_cons, List.not_mem_nil, or_false] at h
  rcases h with rfl | rfl | rfl | rfl | rfl | rfl | rfl <;> rfl

/-- Every form of ISC runs its handler. -/
theorem exec_iscForms (b : Byte) (w : Word) (s : State) (i : Instr) (h : i ∈ iscForms b w) :
    exec i s = perform i handleIsc s := by
  simp only [iscForms, List.mem_cons, List.not_mem_nil, or_false] at h
  rcases h with rfl | rfl | rfl | rfl | rfl | rfl | rfl <;> rfl

/-- Every form of LAX runs its handler. -/
theorem exec_laxForms (b : Byte) (w : Word) (s : State) (i : Instr) (h : i ∈ laxForms b w) :
    exec i s = perform i handleLax s := by
  simp only [laxForms, List.mem_cons, List.not_mem_nil, or_false] at h
  rcases h with rfl | rfl | rfl | rfl | rfl | rfl | rfl <;> rfl

/-- Every form of SAX runs its handler. -/
theorem exec_saxForms (b : Byte) (w : Word) (s : State) (i : Instr) (h : i ∈ saxForms b w) :
    exec i s = perform i handleSax s := by
  simp only [saxForms, List.mem_cons, List.not_mem_nil, or_false] at h
  rcases h with rfl | rfl | rfl | rfl <;> rfl

/-- Every form of KIL runs its handler. -/
theorem exec_kilForms (s : State) (i : Instr) (h : i ∈ kilForms) :
    exec i s = perform i handleNothing s := by
  simp only [kilForms, List.mem_cons, List.not_mem_nil, or_false] at h
  rcases h with rfl | rfl | rfl | rfl | rfl | rfl | rfl | rfl | rfl | rfl | rfl | rfl <;> rfl

/-- Every placeholder does nothing after its resolver. -/
theorem exec_placeholderForms (b : Byte) (w : Word) (s : State) (i : Instr) (h : i ∈ placeholderForms b w) :
    exec i s = perform i handleNothing s := by
  simp only [placeholderForms, List.mem_cons, List.not_mem_nil, or_false] at h
  rcases h with rfl | rfl | rfl | rfl | rfl | rfl | rfl | rfl | rfl | rfl | rfl | rfl <;> rfl

/-! The instructions of one form. -/

theorem exec_bpl (b : Byte) (s : State) : exec (.bpl b) s = perform (.bpl b) handleBpl s := rfl
theorem exec_bmi (b : Byte) (s : State) : exec (.bmi b) s = perform (.bmi b) handleBmi s := rfl
theorem exec_bvc (b : Byte) (s : State) : exec (.bvc b) s = perform (.bvc b) handleBvc s := rfl
theorem exec_bvs (b : Byte) (s : State) : exec (.bvs b) s = perform (.bvs b) handleBvs s := rfl
theorem exec_bcc (b : Byte) (s : State) : exec (.bcc b) s = perform (.bcc b) handleBcc s := rfl
theorem exec_bcs (b : Byte) (s : State) : exec (.bcs b) s = perform (.bcs b) handleBcs s := rfl
theorem exec_bne (b : Byte) (s : State) : exec (.bne b) s = perform (.bne b) handleBne s := rfl
theorem exec_beq (b : Byte) (s : State) : exec (.beq b) s = perform (.beq b) handleBeq s := rfl
theorem exec_tax (s : State) : exec .tax s = perform .tax handleTax s := rfl
theorem exec_tay (s : State) : exec .tay s = perform .tay handleTay s := rfl
theorem exec_txa (s : State) : exec .txa s = perform .txa handleTxa s := rfl
theorem exec_tya (s : State) : exec .tya s = perform .tya handleTya s := rfl
theorem exec_tsx (s : State) : exec .tsx s = perform .tsx handleTsx s := rfl
theorem exec_txs (s : State) : exec .txs s = perform .txs handleTxs s := rfl
theorem exec_inx (s : State) : exec .inx s = perform .inx handleInx s := rfl
theorem exec_iny (s : State) : exec .iny s = perform .iny handleIny s := rfl
theorem exec_dex (s : State) : exec .dex s = perform .dex handleDex s := rfl
theorem exec_dey (s : State) : exec .dey s = perform .dey handleDey s := rfl
theorem exec_jsrAbs (w : Word) (s : State) : exec (.jsrAbs w) s = perform (.jsrAbs w) handleJsr s := rfl
theorem exec_rts (s : State) : exec .rts s = perform .rts handleRts s := rfl
theorem exec_pha (s : State) : exec .pha s = perform .pha handlePha s := rfl
theorem exec_pla (s : State) : exec .pla s = perform .pla handlePla s := rfl
theorem exec_php (s : State) : exec .php s = perform .php handlePhp s := rfl
theorem exec_plp (s : State) : exec .plp s = perform .plp handlePlp s := rfl
theorem exec_brk (s : State) : exec .brk s = perform .brk handleBrk s := rfl
theorem exec_rti (s : State) : exec .rti s = perform .rti handleRti s := rfl
theorem exec_clc (s : State) : exec .clc s = perform .clc handleClc s := rfl
theorem exec_sec (s : State) : exec .sec s = perform .sec handleSec s := rfl
theorem exec_cli (s : State) : exec .cli s = perform .cli handleCli s := rfl
theorem exec_sei (s : State) : exec .sei s = perform .sei handleSei s := rfl
theorem exec_clv (s : State) : exec .clv s = perform .clv handleClv s := rfl
theorem exec_cld (s : State) : exec .cld s = perform .cld handleCld s := rfl
theorem exec_sed (s : State) : exec .sed s = perform .sed handleSed s := rfl

theorem ldaForms_subset (b : Byte) (w : Word) : ldaForms b w ⊆ allForms b w :=
  fun _ h => List.mem_flatten.mpr ⟨_, .head _, h⟩

theorem ldxForms_subset (b : Byte) (w : Word) : ldxForms b w ⊆ allForms b w :=
  fun _ h => List.mem_flatten.mpr ⟨_, .tail _ (.head _), h⟩

theorem ldyForms_subset (b : Byte) (w : Word) : ldyForms b w ⊆ allForms b w :=
  fun _ h => List.mem_flatten.mpr ⟨_, .tail _ (.tail _ (.head _)), h⟩

theorem staForms_subset (b : Byte) (w : Word) : staForms b w ⊆ allForms b w :=
  fun _ h => List.mem_flatten.mpr ⟨_, .tail _ (.tail _ (.tail _ (.head _))), h⟩

theorem stxForms_subset (b : Byte) (w : Word) : stxForms b w ⊆ allForms b w :=
  fun _ h => List.mem_flatten.mpr ⟨_, .tail _ (.tail _ (.tail _ (.tail _ (.head _)))), h⟩

theorem styForms_subset (b : Byte) (w : Word) : styForms b w ⊆ allForms b w :=
  fun _ h => List.mem_flatten.mpr ⟨_, .tail _ (.tail _ (.tail _ (.tail _ (.tail _ (.head _))))), h⟩

theorem adcForms_subset (b : Byte) (w : Word) : adcForms b w ⊆ allForms b w :=
  fun _ h => List.mem_flatten.mpr ⟨_, .tail _ (.tail _ (.tail _ (.tail _ (.tail _ (.tail _ (.head _)))))), h⟩

theorem sbcForms_subset (b : Byte) (w : Word) : sbcForms b w ⊆ allForms b w :=
  fun _ h => List.mem_flatten.mpr ⟨_, .tail _ (.tail _ (.tail _ (.tail _ (.tail _ (.tail _ (.tail _ (.head _))))))), h⟩

theorem aslForms_subset (b : Byte) (w : Word) : aslForms b w ⊆ allForms b w :=
  fun _ h => List.mem_flatten.mpr ⟨_, .tail _ (.tail _ (.tail _ (.tail _ (.tail _ (.tail _ (.tail _ (.tail _ (.head _)))))))), h⟩

theorem lsrForms_subset (b : Byte) (w : Word) : lsrForms b w ⊆ allForms b w :=
  fun _ h => List.mem_flatten.mpr ⟨_, .tail _ (.tail _ (.tail _ (.tail _ (.tail _ (.tail _ (.tail _ (.tail _ (.tail _ (.head _))))))))), h⟩

theorem rolForms_subset (b : Byte) (w : Word) : rolForms b w ⊆ allForms b w :=
  fun _ h => List.mem_flatten.mpr ⟨_, .tail _ (.tail _ (.tail _ (.tail _ (.tail _ (.tail _ (.tail _ (.tail _ (.tail _ (.tail _ (.head _)))))))))), h⟩

theorem rorForms_subset (b : Byte) (w : Word) : rorForms b w ⊆ allForms b w :=
  fun _ h => List.mem_flatten.mpr ⟨_, .tail _ (.tail _ (.tail _ (.tail _ (.tail _ (.tail _ (.tail _ (.tail _ (.tail _ (.tail _ (.tail _ (.head _))))))))))), h⟩

theorem andForms_subset (b : Byte) (w : Word) : andForms b w ⊆ allForms b w :=
  fun _ h => List.mem_flatten.mpr ⟨_, .tail _ (.tail _ (.tail _ (.tail _ (.tail _ (.tail _ (.tail _ (.tail _ (.tail _ (.tail _ (.tail _ (.tail _ (.head _)))))))))))), h⟩

theorem oraForms_subset (b : Byte) (w : Word) : oraForms b w ⊆ allForms b w :=
  fun _ h => List.mem_flatten.mpr ⟨_, .tail _ (.tail _ (.tail _ (.tail _ (.tail _ (.tail _ (.tail _ (.tail _ (.tail _ (.tail _ (.tail _ (.tail _ (.tail _ (.head _))))))))))))), h⟩

theorem eorForms_subset (b : Byte) (w : Word) : eorForms b w ⊆ allForms b w :=
  fun _ h => List.mem_flatten.mpr ⟨_, .tail _ (.tail _ (.tail _ (.tail _ (.tail _ (.tail _ (.tail _ (.tail _ (.tail _ (.tail _ (.tail _ (.tail _ (.tail _ (.tail _ (.head _)))))))))))))), h⟩

theorem bitForms_subset (b : Byte) (w : Word) : bitForms b w ⊆ allForms b w :=
  fun _ h => List.mem_flatten.mpr ⟨_, .tail _ (.tail _ (.tail _ (.tail _ (.tail _ (.tail _ (.tail _ (.tail _ (.tail _ (.tail _ (.tail _ (.tail _ (.tail _ (.tail _ (.tail _ (.head _))))))))))))))), h⟩

theorem cmpForms_subset (b : Byte) (w : Word) : cmpForms b w ⊆ allForms b w :=
  fun _ h => List.mem_flatten.mpr ⟨_, .tail _ (.tail _ (.tail _ (.tail _ (.tail _ (.tail _ (.tail _ (.tail _ (.tail _ (.tail _ (.tail _ (.tail _ (.tail _ (.tail _ (.tail _ (.tail _ (.head _)))))))))))))))), h⟩

theorem cpxForms_subset (b : Byte) (w : Word) : cpxForms b w ⊆ allForms b w :=
  fun _ h => List.mem_flatten.mpr ⟨_, .tail _ (.tail _ (.tail _ (.tail _ (.tail _ (.tail _ (.tail _ (.tail _ (.tail _ (.tail _ (.tail _ (.tail _ (.tail _ (.tail _ (.tail _ (.tail _ (.tail _ (.head _))))))))))))))))), h⟩

theorem cpyForms_subset (b : Byte) (w : Word) : cpyForms b w ⊆ allForms b w :=
  fun _ h => List.mem_flatten.mpr ⟨_, .tail _ (.tail _ (.tail _ (.tail _ (.tail _ (.tail _ (.tail _ (.tail _ (.tail _ (.tail _ (.tail _ (.tail _ (.tail _ (.tail _ (.tail _ (.tail _ (.tail _ (.tail _ (.head _)))))))))))))))))), h⟩

theorem incForms_subset (b : Byte) (w : Word) : incForms b w ⊆ allForms b w :=
  fun _ h => List.mem_flatten.mpr ⟨_, .tail _ (.tail _ (.tail _ (.tail _ (.tail _ (.tail _ (.tail _ (.tail _ (.tail _ (.tail _ (.tail _ (.tail _ (.tail _ (.tail _ (.tail _ (.tail _ (.tail _ (.tail _ (.tail _ (.head _))))))))))))))))))), h⟩

theorem decForms_subset (b : Byte) (w : Word) : decForms b w ⊆ allForms b w :=
  fun _ h => List.mem_flatten.mpr ⟨_, .tail _ (.tail _ (.tail _ (.tail _ (.tail _ (.tail _ (.tail _ (.tail _ (.tail _ (.tail _ (.tail _ (.tail _ (.tail _ (.tail _ (.tail _ (.tail _ (.tail _ (.tail _ (.tail _ (.tail _ (.head _)))))))))))))))))))), h⟩

theorem jmpForms_subset (b : Byte) (w : Word) : jmpForms w ⊆ allForms b w :=
  fun _ h => List.mem_flatten.mpr ⟨_, .tail _ (.tail _ (.tail _ (.tail _ (.tail _ (.tail _ (.tail _ (.tail _ (.tail _ (.tail _ (.tail _ (.tail _ (.tail _ (.tail _ (.tail _ (.tail _ (.tail _ (.tail _ (.tail _ (.tail _ (.tail _ (.head _))))))))))))))))))))), h⟩

theorem nopForms_subset (b : Byte) (w : Word) : nopForms b w ⊆ allForms b w :=
  fun _ h => List.mem_flatten.mpr ⟨_, .tail _ (.tail _ (.tail _ (.tail _ (.tail _ (.tail _ (.tail _ (.tail _ (.tail _ (.tail _ (.tail _ (.tail _ (.tail _ (.tail _ (.tail _ (.tail _ (.tail _ (.tail _ (.tail _ (.tail _ (.tail _ (.tail _ (.head _)))))))))))))))))))))), h⟩

theorem sloForms_subset (b : Byte) (w : Word) : sloForms b w ⊆ allForms b w :=
  fun _ h => List.mem_flatten.mpr ⟨_, .tail _ (.tail _ (.tail _ (.tail _ (.tail _ (.tail _ (.tail _ (.tail _ (.tail _ (.tail _ (.tail _ (.tail _ (.tail _ (.tail _ (.tail _ (.tail _ (.tail _ (.tail _ (.tail _ (.tail _ (.tail _ (.tail _ (.tail _ (.head _))))))))))))))))))))))), h⟩

theorem rlaForms_subset (b : Byte) (w : Word) : rlaForms b w ⊆ allForms b w :=
  fun _ h => List.mem_flatten.mpr ⟨_, .tail _ (.tail _ (.tail _ (.tail _ (.tail _ (.tail _ (.tail _ (.tail _ (.tail _ (.tail _ (.tail _ (.tail _ (.tail _ (.tail _ (.tail _ (.tail _ (.tail _ (.tail _ (.tail _ (.tail _ (.tail _ (.tail _ (.tail _ (.tail _ (.head _)))))))))))))))))))))))), h⟩

theorem sreForms_subset (b : Byte) (w : Word) : sreForms b w ⊆ allForms b w :=
  fun _ h => List.mem_flatten.mpr ⟨_, .tail _ (.tail _ (.tail _ (.tail _ (.tail _ (.tail _ (.tail _ (.tail _ (.tail _ (.tail _ (.tail _ (.tail _ (.tail _ (.tail _ (.tail _ (.tail _ (.tail _ (.tail _ (.tail _ (.tail _ (.tail _ (.tail _ (.tail _ (.tail _ (.tail _ (.head _))))))))))))))))))))))))), h⟩

theorem rraForms_subset (b : Byte) (w : Word) : rraForms b w ⊆ allForms b w :=
  fun _ h => List.mem_flatten.mpr ⟨_, .tail _ (.tail _ (.tail _ (.tail _ (.tail _ (.tail _ (.tail _ (.tail _ (.tail _ (.tail _ (.tail _ (.tail _ (.tail _ (.tail _ (.tail _ (.tail _ (.tail _ (.tail _ (.tail _ (.tail _ (.tail _ (.tail _ (.tail _ (.tail _ (.tail _ (.tail _ (.head _)))))))))))))))))))))))))), h⟩

theorem dcpForms_subset (b : Byte) (w : Word) : dcpForms b w ⊆ allForms b w :=
  fun _ h => List.mem_flatten.mpr ⟨_, .tail _ (.tail _ (.tail _ (.tail _ (.tail _ (.tail _ (.tail _ (.tail _ (.tail _ (.tail _ (.tail _ (.tail _ (.tail _ (.tail _ (.tail _ (.tail _ (.tail _ (.tail _ (.tail _ (.tail _ (.tail _ (.tail _ (.tail _ (.tail _ (.tail _ (.tail _ (.tail _ (.head _))))))))))))))))))))))))))), h⟩

theorem iscForms_subset (b : Byte) (w : Word) : iscForms b w ⊆ allForms b w :=
  fun _ h => List.mem_flatten.mpr ⟨_, .tail _ (.tail _ (.tail _ (.tail _ (.tail _ (.tail _ (.tail _ (.tail _ (.tail _ (.tail _ (.tail _ (.tail _ (.tail _ (.tail _ (.tail _ (.tail _ (.tail _ (.tail _ (.tail _ (.tail _ (.tail _ (.tail _ (.tail _ (.tail _ (.tail _ (.tail _ (.tail _ (.tail _ (.head _)))))))))))))))))))))))))))), h⟩

theorem laxForms_subset (b : Byte) (w : Word) : laxForms b w ⊆ allForms b w :=
  fun _ h => List.mem_flatten.mpr ⟨_, .tail _ (.tail _ (.tail _ (.tail _ (.tail _ (.tail _ (.tail _ (.tail _ (.tail _ (.tail _ (.tail _ (.tail _ (.tail _ (.tail _ (.tail _ (.tail _ (.tail _ (.tail _ (.tail _ (.tail _ (.tail _ (.tail _ (.tail _ (.tail _ (.tail _ (.tail _ (.tail _ (.tail _ (.tail _ (.head _))))))))))))))))))))))))))))), h⟩

theorem saxForms_subset (b : Byte) (w : Word) : saxForms b w ⊆ allForms b w :=
  fun _ h => List.mem_flatten.mpr ⟨_, .tail _ (.tail _ (.tail _ (.tail _ (.tail _ (.tail _ (.tail _ (.tail _ (.tail _ (.tail _ (.tail _ (.tail _ (.tail _ (.tail _ (.tail _ (.tail _ (.tail _ (.tail _ (.tail _ (.tail _ (.tail _ (.tail _ (.tail _ (.tail _ (.tail _ (.tail _ (.tail _ (.tail _ (.tail _ (.tail _ (.head _)))))))))))))))))))))))))))))), h⟩

theorem kilForms_subset (b : Byte) (w : Word) : kilForms ⊆ allForms b w :=
  fun _ h => List.mem_flatten.mpr ⟨_, .tail _ (.tail _ (.tail _ (.tail _ (.tail _ (.tail _ (.tail _ (.tail _ (.tail _ (.tail _ (.tail _ (.tail _ (.tail _ (.tail _ (.tail _ (.tail _ (.tail _ (.tail _ (.tail _ (.tail _ (.tail _ (.tail _ (.tail _ (.tail _ (.tail _ (.tail _ (.tail _ (.tail _ (.tail _ (.tail _ (.tail _ (.head _))))))))))))))))))))))))))))))), h⟩

theorem placeholderForms_subset (b : Byte) (w : Word) : placeholderForms b w ⊆ allForms b w :=
  fun _ h => List.mem_flatten.mpr ⟨_, .tail _ (.tail _ (.tail _ (.tail _ (.tail _ (.tail _ (.tail _ (.tail _ (.tail _ (.tail _ (.tail _ (.tail _ (.tail _ (.tail _ (.tail _ (.tail _ (.tail _ (.tail _ (.tail _ (.tail _ (.tail _ (.tail _ (.tail _ (.tail _ (.tail _ (.tail _ (.tail _ (.tail _ (.tail _ (.tail _ (.tail _ (.tail _ (.head _)))))))))))))))))))))))))))))))), h⟩

theorem branchForms_subset (b : Byte) (w : Word) : branchForms b ⊆ allForms b w :=
  fun _ h => List.mem_flatten.mpr ⟨_, .tail _ (.tail _ (.tail _ (.tail _ (.tail _ (.tail _ (.tail _ (.tail _ (.tail _ (.tail _ (.tail _ (.tail _ (.tail _ (.tail _ (.tail _ (.tail _ (.tail _ (.tail _ (.tail _ (.tail _ (.tail _ (.tail _ (.tail _ (.tail _ (.tail _ (.tail _ (.tail _ (.tail _ (.tail _ (.tail _ (.tail _ (.tail _ (.tail _ (.head _))))))))))))))))))))))))))))))))), h⟩

theorem singleForms_subset (b : Byte) (w : Word) : singleForms w ⊆ allForms b w :=
  fun _ h => List.mem_flatten.mpr ⟨_, .tail _ (.tail _ (.tail _ (.tail _ (.tail _ (.tail _ (.tail _ (.tail _ (.tail _ (.tail _ (.tail _ (.tail _ (.tail _ (.tail _ (.tail _ (.tail _ (.tail _ (.tail _ (.tail _ (.tail _ (.tail _ (.tail _ (.tail _ (.tail _ (.tail _ (.tail _ (.tail _ (.tail _ (.tail _ (.tail _ (.tail _ (.tail _ (.tail _ (.tail _ (.head _)))))))))))))))))))))))))))))))))), h⟩

/-- Every instruction is one of the forms, for some operand byte and word. -/
theorem mem_allForms (i : Instr) : ∃ b w, i ∈ allForms b w := by
  cases i with
  | oraIzx b => exact ⟨b, 0, oraForms_subset b 0 (.tail _ (.tail _ (.tail _ (.tail _ (.tail _ (.tail _ (.head _)))))))⟩
  | sloIzx b => exact ⟨b, 0, sloForms_subset b 0 (.tail _ (.tail _ (.tail _ (.tail _ (.tail _ (.head _))))))⟩
  | nopZp04 b => exact ⟨b, 0, nopForms_subset b 0 (.tail _ (.tail _ (.tail _ (.tail _ (.tail _ (.tail _ (.tail _ (.tail _ (.tail _ (.tail _ (.tail _ (.tail _ (.head _)))))))))))))⟩
  | oraZp b => exact ⟨b, 0, oraForms_subset b 0 (.tail _ (.head _))⟩
  | aslZp b => exact ⟨b, 0, aslForms_subset b 0 (.tail _ (.head _))⟩
  | sloZp b => exact ⟨b, 0, sloForms_subset b 0 (.head _)⟩
  | oraImm b => exact ⟨b, 0, oraForms_subset b 0 (.head _)⟩
  | ancImm0B b => exact ⟨b, 0, placeholderForms_subset b 0 (.head _)⟩
  | nopAbs0C w => exact ⟨0, w, nopForms_subset 0 w (.tail _ (.tail _ (.tail _ (.tail _ (.tail _ (.tail _ (.tail _ (.tail _ (.tail _ (.tail _ (.tail _ (.tail _ (.tail _ (.tail _ (.tail _ (.tail _ (.tail _ (.tail _ (.tail _ (.tail _ (.tail _ (.head _))))))))))))))))))))))⟩
  | oraAbs w => exact ⟨0, w, oraForms_subset 0 w (.tail _ (.tail _ (.tail _ (.head _))))⟩
  | aslAbs w => exact ⟨0, w, aslForms_subset 0 w (.tail _ (.tail _ (.tail _ (.head _))))⟩
  | sloAbs w => exact ⟨0, w, sloForms_subset 0 w (.tail _ (.tail _ (.head _)))⟩
  | bpl b => exact ⟨b, 0, branchForms_subset b 0 (.head _)⟩
  | oraIzy b => exact ⟨b, 0, oraForms_subset b 0 (.tail _ (.tail _ (.tail _ (.tail _ (.tail _ (.tail _ (.tail _ (.head _))))))))⟩
  | sloIzy b => exact ⟨b, 0, sloForms_subset b 0 (.tail _ (.tail _ (.tail _ (.tail _ (.tail _ (.tail _ (.head _)))))))⟩
  | nopZpx14 b => exact ⟨b, 0, nopForms_subset b 0 (.tail _ (.tail _ (.tail _ (.tail _ (.tail _ (.tail _ (.tail _ (.tail _ (.tail _ (.tail _ (.tail _ (.tail _ (.tail _ (.tail _ (.tail _ (.head _))))))))))))))))⟩
  | oraZpx b => exact ⟨b, 0, oraForms_subset b 0 (.tail _ (.tail _ (.head _)))⟩
  | aslZpx b => exact ⟨b, 0, aslForms_subset b 0 (.tail _ (.tail _ (.head _)))⟩
  | sloZpx b => exact ⟨b, 0, sloForms_subset b 0 (.tail _ (.head _))⟩
  | oraAby w => exact ⟨0, w, oraForms_subset 0 w (.tail _ (.tail _ (.tail _ (.tail _ (.tail _ (.head _))))))⟩
  | sloAby w => exact ⟨0, w, sloForms_subset 0 w (.tail _ (.tail _ (.tail _ (.tail _ (.head _)))))⟩
  | nopAbx1C w => exact ⟨0, w, nopForms_subset 0 w (.tail _ (.tail _ (.tail _ (.tail _ (.tail _ (.tail _ (.tail _ (.tail _ (.tail _ (.tail _ (.tail _ (.tail _ (.tail _ (.tail _ (.tail _ (.tail _ (.tail _ (.tail _ (.tail _ (.tail _ (.tail _ (.tail _ (.head _)))))))))))))))))))))))⟩
  | oraAbx w => exact ⟨0, w, oraForms_subset 0 w (.tail _ (.tail _ (.tail _ (.tail _ (.head _)))))⟩
  | aslAbx w => exact ⟨0, w, aslForms_subset 0 w (.tail _ (.tail _ (.tail _ (.tail _ (.head _)))))⟩
  | sloAbx w => exact ⟨0, w, sloForms_subset 0 w (.tail _ (.tail _ (.tail _ (.head _))))⟩
  | jsrAbs w => exact ⟨0, w, singleForms_subset 0 w (.tail _ (.tail _ (.tail _ (.tail _ (.tail _ (.tail _ (.tail _ (.tail _ (.tail _ (.tail _ (.head _)))))))))))⟩
  | andIzx b => exact ⟨b, 0, andForms_subset b 0 (.tail _ (.tail _ (.tail _ (.tail _ (.tail _ (.tail _ (.head _)))))))⟩
  | rlaIzx b => exact ⟨b, 0, rlaForms_subset b 0 (.tail _ (.tail _ (.tail _ (.tail _ (.tail _ (.head _))))))⟩
  | bitZp b => exact ⟨b, 0, bitForms_subset b 0 (.head _)⟩
  | andZp b => exact ⟨b, 0, andForms_subset b 0 (.tail _ (.head _))⟩
  | rolZp b => exact ⟨b, 0, rolForms_subset b 0 (.tail _ (.head _))⟩
  | rlaZp b => exact ⟨b, 0, rlaForms_subset b 0 (.head _)⟩
  | andImm b => exact ⟨b, 0, andForms_subset b 0 (.head _)⟩
  | ancImm2B b => exact ⟨b, 0, placeholderForms_subset b 0 (.tail _ (.head _))⟩
  | bitAbs w => exact ⟨0, w, bitForms_subset 0 w (.tail _ (.head _))⟩
  | andAbs w => exact ⟨0, w, andForms_subset 0 w (.tail _ (.tail _ (.tail _ (.head _))))⟩
  | rolAbs w => exact ⟨0, w, rolForms_subset 0 w (.tail _ (.tail _ (.tail _ (.head _))))⟩
  | rlaAbs w => exact ⟨0, w, rlaForms_subset 0 w (.tail _ (.tail _ (.head _)))⟩
  | bmi b => exact ⟨b, 0, branchForms_subset b 0 (.tail _ (.head _))⟩
  | andIzy b => exact ⟨b, 0, andForms_subset b 0 (.tail _ (.tail _ (.tail _ (.tail _ (.tail _ (.tail _ (.tail _ (.head _))))))))⟩
  | rlaIzy b => exact ⟨b, 0, rlaForms_subset b 0 (.tail _ (.tail _ (.tail _ (.tail _ (.tail _ (.tail _ (.head _)))))))⟩
  | nopZpx34 b => exact ⟨b, 0, nopForms_subset b 0 (.tail _ (.tail _ (.tail _ (.tail _ (.tail _ (.tail _ (.tail _ (.tail _ (.tail _ (.tail _ (.tail _ (.tail _ (.tail _ (.tail _ (.tail _ (.tail _ (.head _)))))))))))))))))⟩
  | andZpx b => exact ⟨b, 0, andForms_subset b 0 (.tail _ (.tail _ (.head _)))⟩
  | rolZpx b => exact ⟨b, 0, rolForms_subset b 0 (.tail _ (.tail _ (.head _)))⟩
  | rlaZpx b => exact ⟨b, 0, rlaForms_subset b 0 (.tail _ (.head _))⟩
  | andAby w => exact ⟨0, w, andForms_subset 0 w (.tail _ (.tail _ (.tail _ (.tail _ (.tail _ (.head _))))))⟩
  | rlaAby w => exact ⟨0, w, rlaForms_subset 0 w (.tail _ (.tail _ (.tail _ (.tail _ (.head _)))))⟩
  | nopAbx3C w => exact ⟨0, w, nopForms_subset 0 w (.tail _ (.tail _ (.tail _ (.tail _ (.tail _ (.tail _ (.tail _ (.tail _ (.tail _ (.tail _ (.tail _ (.tail _ (.tail _ (.tail _ (.tail _ (.tail _ (.tail _ (.tail _ (.tail _ (.tail _ (.tail _ (.tail _ (.tail _ (.head _))))))))))))))))))))))))⟩
  | andAbx w => exact ⟨0, w, andForms_subset 0 w (.tail _ (.tail _ (.tail _ (.tail _ (.head _)))))⟩
  | rolAbx w => exact ⟨0, w, rolForms_subset 0 w (.tail _ (.tail _ (.tail _ (.tail _ (.head _)))))⟩
  | rlaAbx w => exact ⟨0, w, rlaForms_subset 0 w (.tail _ (.tail _ (.tail _ (.head _))))⟩
  | eorIzx b => exact ⟨b, 0, eorForms_subset b 0 (.tail _ (.tail _ (.tail _ (.tail _ (.tail _ (.tail _ (.head _)))))))⟩
  | sreIzx b => exact ⟨b, 0, sreForms_subset b 0 (.tail _ (.tail _ (.tail _ (.tail _ (.tail _ (.head _))))))⟩
  | nopZp44 b => exact ⟨b, 0, nopForms_subset b 0 (.tail _ (.tail _ (.tail _ (.tail _ (.tail _ (.tail _ (.tail _ (.tail _ (.tail _ (.tail _ (.tail _ (.tail _ (.tail _ (.head _))))))))))))))⟩
  | eorZp b => exact ⟨b, 0, eorForms_subset b 0 (.tail _ (.head _))⟩
  | lsrZp b => exact ⟨b, 0, lsrForms_subset b 0 (.tail _ (.head _))⟩
  | sreZp b => exact ⟨b, 0, sreForms_subset b 0 (.head _)⟩
  | eorImm b => exact ⟨b, 0, eorForms_subset b 0 (.head _)⟩
  | alrImm b => exact ⟨b, 0, placeholderForms_subset b 0 (.tail _ (.tail _ (.head _)))⟩
  | jmpAbs w => exact ⟨0, w, jmpForms_subset 0 w (.head _)⟩
  | eorAbs w => exact ⟨0, w, eorForms_subset 0 w (.tail _ (.tail _ (.tail _ (.head _))))⟩
  | lsrAbs w => exact ⟨0, w, lsrForms_subset 0 w (.tail _ (.tail _ (.tail _ (.head _))))⟩
  | sreAbs w => exact ⟨0, w, sreForms_subset 0 w (.tail _ (.tail _ (.head _)))⟩
  | bvc b => exact ⟨b, 0, branchForms_subset b 0 (.tail _ (.tail _ (.head _)))⟩
  | eorIzy b => exact ⟨b, 0, eorForms_subset b 0 (.tail _ (.tail _ (.tail _ (.tail _ (.tail _ (.tail _ (.tail _ (.head _))))))))⟩
  | sreIzy b => exact ⟨b, 0, sreForms_subset b 0 (.tail _ (.tail _ (.tail _ (.tail _ (.tail _ (.tail _ (.head _)))))))⟩
  | nopZpx54 b => exact ⟨b, 0, nopForms_subset b 0 (.tail _ (.tail _ (.tail _ (.tail _ (.tail _ (.tail _ (.tail _ (.tail _ (.tail _ (.tail _ (.tail _ (.tail _ (.tail _ (.tail _ (.tail _ (.tail _ (.tail _ (.head _))))))))))))))))))⟩
  | eorZpx b => exact ⟨b, 0, eorForms_subset b 0 (.tail _ (.tail _ (.head _)))⟩
  | lsrZpx b => exact ⟨b, 0, lsrForms_subset b 0 (.tail _ (.tail _ (.head _)))⟩
  | sreZpx b => exact ⟨b, 0, sreForms_subset b 0 (.tail _ (.head _))⟩
  | eorAby w => exact ⟨0, w, eorForms_subset 0 w (.tail _ (.tail _ (.tail _ (.tail _ (.tail _ (.head _))))))⟩
  | sreAby w => exact ⟨0, w, sreForms_subset 0 w (.tail _ (.tail _ (.tail _ (.tail _ (.head _)))))⟩
  | nopAbx5C w => exact ⟨0, w, nopForms_subset 0 w (.tail _ (.tail _ (.tail _ (.tail _ (.tail _ (.tail _ (.tail _ (.tail _ (.tail _ (.tail _ (.tail _ (.tail _ (.tail _ (.tail _ (.tail _ (.tail _ (.tail _ (.tail _ (.tail _ (.tail _ (.tail _ (.tail _ (.tail _ (.tail _ (.head _)))))))))))))))))))))))))⟩
  | eorAbx w => exact ⟨0, w, eorForms_subset 0 w (.tail _ (.tail _ (.tail _ (.tail _ (.head _)))))⟩
  | lsrAbx w => exact ⟨0, w, lsrForms_subset 0 w (.tail _ (.tail _ (.tail _ (.tail _ (.head _)))))⟩
  | sreAbx w => exact ⟨0, w, sreForms_subset 0 w (.tail _ (.tail _ (.tail _ (.head _))))⟩
  | adcIzx b => exact ⟨b, 0, adcForms_subset b 0 (.tail _ (.tail _ (.tail _ (.tail _ (.tail _ (.tail _ (.head _)))))))⟩
  | rraIzx b => exact ⟨b, 0, rraForms_subset b 0 (.tail _ (.tail _ (.tail _ (.tail _ (.tail _ (.head _))))))⟩
  | nopZp64 b => exact ⟨b, 0, nopForms_subset b 0 (.tail _ (.tail _ (.tail _ (.tail _ (.tail _ (.tail _ (.tail _ (.tail _ (.tail _ (.tail _ (.tail _ (.tail _ (.tail _ (.tail _ (.head _)))))))))))))))⟩
  | adcZp b => exact ⟨b, 0, adcForms_subset b 0 (.tail _ (.head _))⟩
  | rorZp b => exact ⟨b, 0, rorForms_subset b 0 (.tail _ (.head _))⟩
  | rraZp b => exact ⟨b, 0, rraForms_subset b 0 (.head _)⟩
  | adcImm b => exact ⟨b, 0, adcForms_subset b 0 (.head _)⟩
  | arrImm b => exact ⟨b, 0, placeholderForms_subset b 0 (.tail _ (.tail _ (.tail _ (.head _))))⟩
  | jmpInd w => exact ⟨0, w, jmpForms_subset 0 w (.tail _ (.head _))⟩
  | adcAbs w => exact ⟨0, w, adcForms_subset 0 w (.tail _ (.tail _ (.tail _ (.head _))))⟩
  | rorAbs w => exact ⟨0, w, rorForms_subset 0 w (.tail _ (.tail _ (.tail _ (.head _))))⟩
  | rraAbs w => exact ⟨0, w, rraForms_subset 0 w (.tail _ (.tail _ (.head _)))⟩
  | bvs b => exact ⟨b, 0, branchForms_subset b 0 (.tail _ (.tail _ (.tail _ (.head _))))⟩
  | adcIzy b => exact ⟨b, 0, adcForms_subset b 0 (.tail _ (.tail _ (.tail _ (.tail _ (.tail _ (.tail _ (.tail _ (.head _))))))))⟩
  | rraIzy b => exact ⟨b, 0, rraForms_subset b 0 (.tail _ (.tail _ (.tail _ (.tail _ (.tail _ (.tail _ (.head _)))))))⟩
  | nopZpx74 b => exact ⟨b, 0, nopForms_subset b 0 (.tail _ (.tail _ (.tail _ (.tail _ (.tail _ (.tail _ (.tail _ (.tail _ (.tail _ (.tail _ (.tail _ (.tail _ (.tail _ (.tail _ (.tail _ (.tail _ (.tail _ (.tail _ (.head _)))))))))))))))))))⟩
  | adcZpx b => exact ⟨b, 0, adcForms_subset b 0 (.tail _ (.tail _ (.head _)))⟩
  | rorZpx b => exact ⟨b, 0, rorForms_subset b 0 (.tail _ (.tail _ (.head _)))⟩
  | rraZpx b => exact ⟨b, 0, rraForms_subset b 0 (.tail _ (.head _))⟩
  | adcAby w => exact ⟨0, w, adcForms_subset 0 w (.tail _ (.tail _ (.tail _ (.tail _ (.tail _ (.head _))))))⟩
  | rraAby w => exact ⟨0, w, rraForms_subset 0 w (.tail _ (.tail _ (.tail _ (.tail _ (.head _)))))⟩
  | nopAbx7C w => exact ⟨0, w, nopForms_subset 0 w (.tail _ (.tail _ (.tail _ (.tail _ (.tail _ (.tail _ (.tail _ (.tail _ (.tail _ (.tail _ (.tail _ (.tail _ (.tail _ (.tail _ (.tail _ (.tail _ (.tail _ (.tail _ (.tail _ (.tail _ (.tail _ (.tail _ (.tail _ (.tail _ (.tail _ (.head _))))))))))))))))))))))))))⟩
  | adcAbx w => exact ⟨0, w, adcForms_subset 0 w (.tail _ (.tail _ (.tail _ (.tail _ (.head _)))))⟩
  | rorAbx w => exact ⟨0, w, rorForms_subset 0 w (.tail _ (.tail _ (.tail _ (.tail _ (.head _)))))⟩
  | rraAbx w => exact ⟨0, w, rraForms_subset 0 w (.tail _ (.tail _ (.tail _ (.head _))))⟩
  | nopImm80 b => exact ⟨b, 0, nopForms_subset b 0 (.tail _ (.tail _ (.tail _ (.tail _ (.tail _ (.tail _ (.tail _ (.head _))))))))⟩
  | staIzx b => exact ⟨b, 0, staForms_subset b 0 (.tail _ (.tail _ (.tail _ (.tail _ (.tail _ (.head _))))))⟩
  | nopImm82 b => exact ⟨b, 0, nopForms_subset b 0 (.tail _ (.tail _ (.tail _ (.tail _ (.tail _ (.tail _ (.tail _ (.tail _ (.head _)))))))))⟩
  | saxIzx b => exact ⟨b, 0, saxForms_subset b 0 (.tail _ (.tail _ (.tail _ (.head _))))⟩
  | styZp b => exact ⟨b, 0, styForms_subset b 0 (.head _)⟩
  | staZp b => exact ⟨b, 0, staForms_subset b 0 (.head _)⟩
  | stxZp b => exact ⟨b, 0, stxForms_subset b 0 (.head _)⟩
  | saxZp b => exact ⟨b, 0, saxForms_subset b 0 (.head _)⟩
  | nopImm89 b => exact ⟨b, 0, nopForms_subset b 0 (.tail _ (.tail _ (.tail _ (.tail _ (.tail _ (.tail _ (.tail _ (.tail _ (.tail _ (.head _))))))))))⟩
  | xaaImm b => exact ⟨b, 0, placeholderForms_subset b 0 (.tail _ (.tail _ (.tail _ (.tail _ (.head _)))))⟩
  | styAbs w => exact ⟨0, w, styForms_subset 0 w (.tail _ (.tail _ (.head _)))⟩
  | staAbs w => exact ⟨0, w, staForms_subset 0 w (.tail _ (.tail _ (.head _)))⟩
  | stxAbs w => exact ⟨0, w, stxForms_subset 0 w (.tail _ (.tail _ (.head _)))⟩
  | saxAbs w => exact ⟨0, w, saxForms_subset 0 w (.tail _ (.tail _ (.head _)))⟩
  | bcc b => exact ⟨b, 0, branchForms_subset b 0 (.tail _ (.tail _ (.tail _ (.tail _ (.head _)))))⟩
  | staIzy b => exact ⟨b, 0, staForms_subset b 0 (.tail _ (.tail _ (.tail _ (.tail _ (.tail _ (.tail _ (.head _)))))))⟩
  | ahxIzy b => exact ⟨b, 0, placeholderForms_subset b 0 (.tail _ (.tail _ (.tail _ (.tail _ (.tail _ (.tail _ (.tail _ (.tail _ (.tail _ (.tail _ (.head _)))))))))))⟩
  | styZpx b => exact ⟨b, 0, styForms_subset b 0 (.tail _ (.head _))⟩
  | staZpx b => exact ⟨b, 0, staForms_subset b 0 (.tail _ (.head _))⟩
  | stxZpy b => exact ⟨b, 0, stxForms_subset b 0 (.tail _ (.head _))⟩
  | saxZpy b => exact ⟨b, 0, saxForms_subset b 0 (.tail _ (.head _))⟩
  | staAby w => exact ⟨0, w, staForms_subset 0 w (.tail _ (.tail _ (.tail _ (.tail _ (.head _)))))⟩
  | tasAby w => exact ⟨0, w, placeholderForms_subset 0 w (.tail _ (.tail _ (.tail _ (.tail _ (.tail _ (.tail _ (.head _)))))))⟩
  | shyAbx w => exact ⟨0, w, placeholderForms_subset 0 w (.tail _ (.tail _ (.tail _ (.tail _ (.tail _ (.tail _ (.tail _ (.head _))))))))⟩
  | staAbx w => exact ⟨0, w, staForms_subset 0 w (.tail _ (.tail _ (.tail _ (.head _))))⟩
  | shxAby w => exact ⟨0, w, placeholderForms_subset 0 w (.tail _ (.tail _ (.tail _ (.tail _ (.tail _ (.tail _ (.tail _ (.tail _ (.head _)))))))))⟩
  | ahxAby w => exact ⟨0, w, placeholderForms_subset 0 w (.tail _ (.tail _ (.tail _ (.tail _ (.tail _ (.tail _ (.tail _ (.tail _ (.tail _ (.head _))))))))))⟩
  | ldyImm b => exact ⟨b, 0, ldyForms_subset b 0 (.head _)⟩
  | ldaIzx b => exact ⟨b, 0, ldaForms_subset b 0 (.tail _ (.tail _ (.tail _ (.tail _ (.tail _ (.tail _ (.head _)))))))⟩
  | ldxImm b => exact ⟨b, 0, ldxForms_subset b 0 (.head _)⟩
  | laxIzx b => exact ⟨b, 0, laxForms_subset b 0 (.tail _ (.tail _ (.tail _ (.tail _ (.tail _ (.head _))))))⟩
  | ldyZp b => exact ⟨b, 0, ldyForms_subset b 0 (.tail _ (.head _))⟩
  | ldaZp b => exact ⟨b, 0, ldaForms_subset b 0 (.tail _ (.head _))⟩
  | ldxZp b => exact ⟨b, 0, ldxForms_subset b 0 (.tail _ (.head _))⟩
  | laxZp b => exact ⟨b, 0, laxForms_subset b 0 (.tail _ (.head _))⟩
  | ldaImm b => exact ⟨b, 0, ldaForms_subset b 0 (.head _)⟩
  | laxImm b => exact ⟨b, 0, laxForms_subset b 0 (.head _)⟩
  | ldyAbs w => exact ⟨0, w, ldyForms_subset 0 w (.tail _ (.tail _ (.tail _ (.head _))))⟩
  | ldaAbs w => exact ⟨0, w, ldaForms_subset 0 w (.tail _ (.tail _ (.tail _ (.head _))))⟩
  | ldxAbs w => exact ⟨0, w, ldxForms_subset 0 w (.tail _ (.tail _ (.tail _ (.head _))))⟩
  | laxAbs w => exact ⟨0, w, laxForms_subset 0 w (.tail _ (.tail _ (.tail _ (.head _))))⟩
  | bcs b => exact ⟨b, 0, branchForms_subset b 0 (.tail _ (.tail _ (.tail _ (.tail _ (.tail _ (.head _))))))⟩
  | ldaIzy b => exact ⟨b, 0, ldaForms_subset b 0 (.tail _ (.tail _ (.tail _ (.tail _ (.tail _ (.tail _ (.tail _ (.head _))))))))⟩
  | laxIzy b => exact ⟨b, 0, laxForms_subset b 0 (.tail _ (.tail _ (.tail _ (.tail _ (.tail _ (.tail _ (.head _)))))))⟩
  | ldyZpx b => exact ⟨b, 0, ldyForms_subset b 0 (.tail _ (.tail _ (.head _)))⟩
  | ldaZpx b => exact ⟨b, 0, ldaForms_subset b 0 (.tail _ (.tail _ (.head _)))⟩
  | ldxZpy b => exact ⟨b, 0, ldxForms_subset b 0 (.tail _ (.tail _ (.head _)))⟩
  | laxZpy b => exact ⟨b, 0, laxForms_subset b 0 (.tail _ (.tail _ (.head _)))⟩
  | ldaAby w => exact ⟨0, w, ldaForms_subset 0 w (.tail _ (.tail _ (.tail _ (.tail _ (.tail _ (.head _))))))⟩
  | lasAby w => exact ⟨0, w, placeholderForms_subset 0 w (.tail _ (.tail _ (.tail _ (.tail _ (.tail _ (.tail _ (.tail _ (.tail _ (.tail _ (.tail _ (.tail _ (.head _))))))))))))⟩
  | ldyAbx w => exact ⟨0, w, ldyForms_subset 0 w (.tail _ (.tail _ (.tail _ (.tail _ (.head _)))))⟩
  | ldaAbx w => exact ⟨0, w, ldaForms_subset 0 w (.tail _ (.tail _ (.tail _ (.tail _ (.head _)))))⟩
  | ldxAby w => exact ⟨0, w, ldxForms_subset 0 w (.tail _ (.tail _ (.tail _ (.tail _ (.head _)))))⟩
  | laxAby w => exact ⟨0, w, laxForms_subset 0 w (.tail _ (.tail _ (.tail _ (.tail _ (.head _)))))⟩
  | cpyImm b => exact ⟨b, 0, cpyForms_subset b 0 (.head _)⟩
  | cmpIzx b => exact ⟨b, 0, cmpForms_subset b 0 (.tail _ (.tail _ (.tail _ (.tail _ (.tail _ (.tail _ (.head _)))))))⟩
  | nopImmC2 b => exact ⟨b, 0, nopForms_subset b 0 (.tail _ (.tail _ (.tail _ (.tail _ (.tail _ (.tail _ (.tail _ (.tail _ (.tail _ (.tail _ (.head _)))))))))))⟩
  | dcpIzx b => exact ⟨b, 0, dcpForms_subset b 0 (.tail _ (.tail _ (.tail _ (.tail _ (.tail _ (.head _))))))⟩
  | cpyZp b => exact ⟨b, 0, cpyForms_subset b 0 (.tail _ (.head _))⟩
  | cmpZp b => exact ⟨b, 0, cmpForms_subset b 0 (.tail _ (.head _))⟩
  | decZp b => exact ⟨b, 0, decForms_subset b 0 (.head _)⟩
  | dcpZp b => exact ⟨b, 0, dcpForms_subset b 0 (.head _)⟩
  | cmpImm b => exact ⟨b, 0, cmpForms_subset b 0 (.head _)⟩
  | axsImm b => exact ⟨b, 0, placeholderForms_subset b 0 (.tail _ (.tail _ (.tail _ (.tail _ (.tail _ (.head _))))))⟩
  | cpyAbs w => exact ⟨0, w, cpyForms_subset 0 w (.tail _ (.tail _ (.head _)))⟩
  | cmpAbs w => exact ⟨0, w, cmpForms_subset 0 w (.tail _ (.tail _ (.tail _ (.head _))))⟩
  | decAbs w => exact ⟨0, w, decForms_subset 0 w (.tail _ (.tail _ (.head _)))⟩
  | dcpAbs w => exact ⟨0, w, dcpForms_subset 0 w (.tail _ (.tail _ (.head _)))⟩
  | bne b => exact ⟨b, 0, branchForms_subset b 0 (.tail _ (.tail _ (.tail _ (.tail _ (.tail _ (.tail _ (.head _)))))))⟩
  | cmpIzy b => exact ⟨b, 0, cmpForms_subset b 0 (.tail _ (.tail _ (.tail _ (.tail _ (.tail _ (.tail _ (.tail _ (.head _))))))))⟩
  | dcpIzy b => exact ⟨b, 0, dcpForms_subset b 0 (.tail _ (.tail _ (.tail _ (.tail _ (.tail _ (.tail _ (.head _)))))))⟩
  | nopZpxD4 b => exact ⟨b, 0, nopForms_subset b 0 (.tail _ (.tail _ (.tail _ (.tail _ (.tail _ (.tail _ (.tail _ (.tail _ (.tail _ (.tail _ (.tail _ (.tail _ (.tail _ (.tail _ (.tail _ (.tail _ (.tail _ (.tail _ (.tail _ (.head _))))))))))))))))))))⟩
  | cmpZpx b => exact ⟨b, 0, cmpForms_subset b 0 (.tail _ (.tail _ (.head _)))⟩
  | decZpx b => exact ⟨b, 0, decForms_subset b 0 (.tail _ (.head _))⟩
  | dcpZpx b => exact ⟨b, 0, dcpForms_subset b 0 (.tail _ (.head _))⟩
  | cmpAby w => exact ⟨0, w, cmpForms_subset 0 w (.tail _ (.tail _ (.tail _ (.tail _ (.tail _ (.head _))))))⟩
  | dcpAby w => exact ⟨0, w, dcpForms_subset 0 w (.tail _ (.tail _ (.tail _ (.tail _ (.head _)))))⟩
  | nopAbxDC w => exact ⟨0, w, nopForms_subset 0 w (.tail _ (.tail _ (.tail _ (.tail _ (.tail _ (.tail _ (.tail _ (.tail _ (.tail _ (.tail _ (.tail _ (.tail _ (.tail _ (.tail _ (.tail _ (.tail _ (.tail _ (.tail _ (.tail _ (.tail _ (.tail _ (.tail _ (.tail _ (.tail _ (.tail _ (.tail _ (.head _)))))))))))))))))))))))))))⟩
  | cmpAbx w => exact ⟨0, w, cmpForms_subset 0 w (.tail _ (.tail _ (.tail _ (.tail _ (.head _)))))⟩
  | decAbx w => exact ⟨0, w, decForms_subset 0 w (.tail _ (.tail _ (.tail _ (.head _))))⟩
  | dcpAbx w => exact ⟨0, w, dcpForms_subset 0 w (.tail _ (.tail _ (.tail _ (.head _))))⟩
  | cpxImm b => exact ⟨b, 0, cpxForms_subset b 0 (.head _)⟩
  | sbcIzx b => exact ⟨b, 0, sbcForms_subset b 0 (.tail _ (.tail _ (.tail _ (.tail _ (.tail _ (.tail _ (.tail _ (.head _))))))))⟩
  | nopImmE2 b => exact ⟨b, 0, nopForms_subset b 0 (.tail _ (.tail _ (.tail _ (.tail _ (.tail _ (.tail _ (.tail _ (.tail _ (.tail _ (.tail _ (.tail _ (.head _))))))))))))⟩
  | iscIzx b => exact ⟨b, 0, iscForms_subset b 0 (.tail _ (.tail _ (.tail _ (.tail _ (.tail _ (.head _))))))⟩
  | cpxZp b => exact ⟨b, 0, cpxForms_subset b 0 (.tail _ (.head _))⟩
  | sbcZp b => exact ⟨b, 0, sbcForms_subset b 0 (.tail _ (.tail _ (.head _)))⟩
  | incZp b => exact ⟨b, 0, incForms_subset b 0 (.head _)⟩
  | iscZp b => exact ⟨b, 0, iscForms_subset b 0 (.head _)⟩
  | sbcImm b => exact ⟨b, 0, sbcForms_subset b 0 (.head _)⟩
  | sbcImmEB b => exact ⟨b, 0, sbcForms_subset b 0 (.tail _ (.head _))⟩
  | cpxAbs w => exact ⟨0, w, cpxForms_subset 0 w (.tail _ (.tail _ (.head _)))⟩
  | sbcAbs w => exact ⟨0, w, sbcForms_subset 0 w (.tail _ (.tail _ (.tail _ (.tail _ (.head _)))))⟩
  | incAbs w => exact ⟨0, w, incForms_subset 0 w (.tail _ (.tail _ (.head _)))⟩
  | iscAbs w => exact ⟨0, w, iscForms_subset 0 w (.tail _ (.tail _ (.head _)))⟩
  | beq b => exact ⟨b, 0, branchForms_subset b 0 (.tail _ (.tail _ (.tail _ (.tail _ (.tail _ (.tail _ (.tail _ (.head _))))))))⟩
  | sbcIzy b => exact ⟨b, 0, sbcForms_subset b 0 (.tail _ (.tail _ (.tail _ (.tail _ (.tail _ (.tail _ (.tail _ (.tail _ (.head _)))))))))⟩
  | iscIzy b => exact ⟨b, 0, iscForms_subset b 0 (.tail _ (.tail _ (.tail _ (.tail _ (.tail _ (.tail _ (.head _)))))))⟩
  | nopZpxF4 b => exact ⟨b, 0, nopForms_subset b 0 (.tail _ (.tail _ (.tail _ (.tail _ (.tail _ (.tail _ (.tail _ (.tail _ (.tail _ (.tail _ (.tail _ (.tail _ (.tail _ (.tail _ (.tail _ (.tail _ (.tail _ (.tail _ (.tail _ (.tail _ (.head _)))))))))))))))))))))⟩
  | sbcZpx b => exact ⟨b, 0, sbcForms_subset b 0 (.tail _ (.tail _ (.tail _ (.head _))))⟩
  | incZpx b => exact ⟨b, 0, incForms_subset b 0 (.tail _ (.head _))⟩
  | iscZpx b => exact ⟨b, 0, iscForms_subset b 0 (.tail _ (.head _))⟩
  | sbcAby w => exact ⟨0, w, sbcForms_subset 0 w (.tail _ (.tail _ (.tail _ (.tail _ (.tail _ (.tail _ (.head _)))))))⟩
  | iscAby w => exact ⟨0, w, iscForms_subset 0 w (.tail _ (.tail _ (.tail _ (.tail _ (.head _)))))⟩
  | nopAbxFC w => exact ⟨0, w, nopForms_subset 0 w (.tail _ (.tail _ (.tail _ (.tail _ (.tail _ (.tail _ (.tail _ (.tail _ (.tail _ (.tail _ (.tail _ (.tail _ (.tail _ (.tail _ (.tail _ (.tail _ (.tail _ (.tail _ (.tail _ (.tail _ (.tail _ (.tail _ (.tail _ (.tail _ (.tail _ (.tail _ (.tail _ (.head _))))))))))))))))))))))))))))⟩
  | sbcAbx w => exact ⟨0, w, sbcForms_subset 0 w (.tail _ (.tail _ (.tail _ (.tail _ (.tail _ (.head _))))))⟩
  | incAbx w => exact ⟨0, w, incForms_subset 0 w (.tail _ (.tail _ (.tail _ (.head _))))⟩
  | iscAbx w => exact ⟨0, w, iscForms_subset 0 w (.tail _ (.tail _ (.tail _ (.head _))))⟩
  | brk => exact ⟨0, 0, singleForms_subset 0 0 (.tail _ (.tail _ (.tail _ (.tail _ (.tail _ (.tail _ (.tail _ (.tail _ (.tail _ (.tail _ (.tail _ (.tail _ (.tail _ (.tail _ (.tail _ (.tail _ (.head _)))))))))))))))))⟩
  | kil02 => exact ⟨0, 0, kilForms_subset 0 0 (.head _)⟩
  | php => exact ⟨0, 0, singleForms_subset 0 0 (.tail _ (.tail _ (.tail _ (.tail _ (.tail _ (.tail _ (.tail _ (.tail _ (.tail _ (.tail _ (.tail _ (.tail _ (.tail _ (.tail _ (.head _)))))))))))))))⟩
  | aslAcc => exact ⟨0, 0, aslForms_subset 0 0 (.head _)⟩
  | kil12 => exact ⟨0, 0, kilForms_subset 0 0 (.tail _ (.head _))⟩
  | clc => exact ⟨0, 0, singleForms_subset 0 0 (.tail _ (.tail _ (.tail _ (.tail _ (.tail _ (.tail _ (.tail _ (.tail _ (.tail _ (.tail _ (.tail _ (.tail _ (.tail _ (.tail _ (.tail _ (.tail _ (.tail _ (.tail _ (.head _)))))))))))))))))))⟩
  | nopImp1A => exact ⟨0, 0, nopForms_subset 0 0 (.head _)⟩
  | kil22 => exact ⟨0, 0, kilForms_subset 0 0 (.tail _ (.tail _ (.head _)))⟩
  | plp => exact ⟨0, 0, singleForms_subset 0 0 (.tail _ (.tail _ (.tail _ (.tail _ (.tail _ (.tail _ (.tail _ (.tail _ (.tail _ (.tail _ (.tail _ (.tail _ (.tail _ (.tail _ (.tail _ (.head _))))))))))))))))⟩
  | rolAcc => exact ⟨0, 0, rolForms_subset 0 0 (.head _)⟩
  | kil32 => exact ⟨0, 0, kilForms_subset 0 0 (.tail _ (.tail _ (.tail _ (.head _))))⟩
  | sec => exact ⟨0, 0, singleForms_subset 0 0 (.tail _ (.tail _ (.tail _ (.tail _ (.tail _ (.tail _ (.tail _ (.tail _ (.tail _ (.tail _ (.tail _ (.tail _ (.tail _ (.tail _ (.tail _ (.tail _ (.tail _ (.tail _ (.tail _ (.head _))))))))))))))))))))⟩
  | nopImp3A => exact ⟨0, 0, nopForms_subset 0 0 (.tail _ (.head _))⟩
  | rti => exact ⟨0, 0, singleForms_subset 0 0 (.tail _ (.tail _ (.tail _ (.tail _ (.tail _ (.tail _ (.tail _ (.tail _ (.tail _ (.tail _ (.tail _ (.tail _ (.tail _ (.tail _ (.tail _ (.tail _ (.tail _ (.head _))))))))))))))))))⟩
  | kil42 => exact ⟨0, 0, kilForms_subset 0 0 (.tail _ (.tail _ (.tail _ (.tail _ (.head _)))))⟩
  | pha => exact ⟨0, 0, singleForms_subset 0 0 (.tail _ (.tail _ (.tail _ (.tail _ (.tail _ (.tail _ (.tail _ (.tail _ (.tail _ (.tail _ (.tail _ (.tail _ (.head _)))))))))))))⟩
  | lsrAcc => exact ⟨0, 0, lsrForms_subset 0 0 (.head _)⟩
  | kil52 => exact ⟨0, 0, kilForms_subset 0 0 (.tail _ (.tail _ (.tail _ (.tail _ (.tail _ (.head _))))))⟩
  | cli => exact ⟨0, 0, singleForms_subset 0 0 (.tail _ (.tail _ (.tail _ (.tail _ (.tail _ (.tail _ (.tail _ (.tail _ (.tail _ (.tail _ (.tail _ (.tail _ (.tail _ (.tail _ (.tail _ (.tail _ (.tail _ (.tail _ (.tail _ (.tail _ (.head _)))))))))))))))))))))⟩
  | nopImp5A => exact ⟨0, 0, nopForms_subset 0 0 (.tail _ (.tail _ (.head _)))⟩
  | rts => exact ⟨0, 0, singleForms_subset 0 0 (.tail _ (.tail _ (.tail _ (.tail _ (.tail _ (.tail _ (.tail _ (.tail _ (.tail _ (.tail _ (.tail _ (.head _))))))))))))⟩
  | kil62 => exact ⟨0, 0, kilForms_subset 0 0 (.tail _ (.tail _ (.tail _ (.tail _ (.tail _ (.tail _ (.head _)))))))⟩
  | pla => exact ⟨0, 0, singleForms_subset 0 0 (.tail _ (.tail _ (.tail _ (.tail _ (.tail _ (.tail _ (.tail _ (.tail _ (.tail _ (.tail _ (.tail _ (.tail _ (.tail _ (.head _))))))))))))))⟩
  | rorAcc => exact ⟨0, 0, rorForms_subset 0 0 (.head _)⟩
  | kil72 => exact ⟨0, 0, kilForms_subset 0 0 (.tail _ (.tail _ (.tail _ (.tail _ (.tail _ (.tail _ (.tail _ (.head _))))))))⟩
  | sei => exact ⟨0, 0, singleForms_subset 0 0 (.tail _ (.tail _ (.tail _ (.tail _ (.tail _ (.tail _ (.tail _ (.tail _ (.tail _ (.tail _ (.tail _ (.tail _ (.tail _ (.tail _ (.tail _ (.tail _ (.tail _ (.tail _ (.tail _ (.tail _ (.tail _ (.head _))))))))))))))))))))))⟩
  | nopImp7A => exact ⟨0, 0, nopForms_subset 0 0 (.tail _ (.tail _ (.tail _ (.head _))))⟩
  | dey => exact ⟨0, 0, singleForms_subset 0 0 (.tail _ (.tail _ (.tail _ (.tail _ (.tail _ (.tail _ (.tail _ (.tail _ (.tail _ (.head _))))))))))⟩
  | txa => exact ⟨0, 0, singleForms_subset 0 0 (.tail _ (.tail _ (.head _)))⟩
  | kil92 => exact ⟨0, 0, kilForms_subset 0 0 (.tail _ (.tail _ (.tail _ (.tail _ (.tail _ (.tail _ (.tail _ (.tail _ (.head _)))))))))⟩
  | tya => exact ⟨0, 0, singleForms_subset 0 0 (.tail _ (.tail _ (.tail _ (.head _))))⟩
  | txs => exact ⟨0, 0, singleForms_subset 0 0 (.tail _ (.tail _ (.tail _ (.tail _ (.tail _ (.head _))))))⟩
  | tay => exact ⟨0, 0, singleForms_subset 0 0 (.tail _ (.head _))⟩
  | tax => exact ⟨0, 0, singleForms_subset 0 0 (.head _)⟩
  | kilB2 => exact ⟨0, 0, kilForms_subset 0 0 (.tail _ (.tail _ (.tail _ (.tail _ (.tail _ (.tail _ (.tail _ (.tail _ (.tail _ (.head _))))))))))⟩
  | clv => exact ⟨0, 0, singleForms_subset 0 0 (.tail _ (.tail _ (.tail _ (.tail _ (.tail _ (.tail _ (.tail _ (.tail _ (.tail _ (.tail _ (.tail _ (.tail _ (.tail _ (.tail _ (.tail _ (.tail _ (.tail _ (.tail _ (.tail _ (.tail _ (.tail _ (.tail _ (.head _)))))))))))))))))))))))⟩
  | tsx => exact ⟨0, 0, singleForms_subset 0 0 (.tail _ (.tail _ (.tail _ (.tail _ (.head _)))))⟩
  | iny => exact ⟨0, 0, singleForms_subset 0 0 (.tail _ (.tail _ (.tail _ (.tail _ (.tail _ (.tail _ (.tail _ (.head _))))))))⟩
  | dex => exact ⟨0, 0, singleForms_subset 0 0 (.tail _ (.tail _ (.tail _ (.tail _ (.tail _ (.tail _ (.tail _ (.tail _ (.head _)))))))))⟩
  | kilD2 => exact ⟨0, 0, kilForms_subset 0 0 (.tail _ (.tail _ (.tail _ (.tail _ (.tail _ (.tail _ (.tail _ (.tail _ (.tail _ (.tail _ (.head _)))))))))))⟩
  | cld => exact ⟨0, 0, singleForms_subset 0 0 (.tail _ (.tail _ (.tail _ (.tail _ (.tail _ (.tail _ (.tail _ (.tail _ (.tail _ (.tail _ (.tail _ (.tail _ (.tail _ (.tail _ (.tail _ (.tail _ (.tail _ (.tail _ (.tail _ (.tail _ (.tail _ (.tail _ (.tail _ (.head _))))))))))))))))))))))))⟩
  | nopImpDA => exact ⟨0, 0, nopForms_subset 0 0 (.tail _ (.tail _ (.tail _ (.tail _ (.head _)))))⟩
  | inx => exact ⟨0, 0, singleForms_subset 0 0 (.tail _ (.tail _ (.tail _ (.tail _ (.tail _ (.tail _ (.head _)))))))⟩
  | nop => exact ⟨0, 0, nopForms_subset 0 0 (.tail _ (.tail _ (.tail _ (.tail _ (.tail _ (.head _))))))⟩
  | kilF2 => exact ⟨0, 0, kilForms_subset 0 0 (.tail _ (.tail _ (.tail _ (.tail _ (.tail _ (.tail _ (.tail _ (.tail _ (.tail _ (.tail _ (.tail _ (.head _))))))))))))⟩
  | sed => exact ⟨0, 0, singleForms_subset 0 0 (.tail _ (.tail _ (.tail _ (.tail _ (.tail _ (.tail _ (.tail _ (.tail _ (.tail _ (.tail _ (.tail _ (.tail _ (.tail _ (.tail _ (.tail _ (.tail _ (.tail _ (.tail _ (.tail _ (.tail _ (.tail _ (.tail _ (.tail _ (.tail _ (.head _)))))))))))))))))))))))))⟩
  | nopImpFA => exact ⟨0, 0, nopForms_subset 0 0 (.tail _ (.tail _ (.tail _ (.tail _ (.tail _ (.tail _ (.head _)))))))⟩

/-! ### The handlers -/

/-- The handlers that instructions run: one for each mnemonic that does something, and one that does nothing. -/
inductive IsHandler : Handler → Prop where
  | brk : IsHandler handleBrk
  | ora : IsHandler handleOra
  | nothing : IsHandler handleNothing
  | slo : IsHandler handleSlo
  | asl : IsHandler (handleShift aslFn)
  | php : IsHandler handlePhp
  | bpl : IsHandler handleBpl
  | clc : IsHandler handleClc
  | jsr : IsHandler handleJsr
  | and : IsHandler handleAnd
  | rla : IsHandler handleRla
  | bit : IsHandler handleBit
  | rol : IsHandler (handleShift rolFn)
  | plp : IsHandler handlePlp
  | bmi : IsHandler handleBmi
  | sec : IsHandler handleSec
  | rti : IsHandler handleRti
  | eor : IsHandler handleEor
  | sre : IsHandler handleSre
  | lsr : IsHandler (handleShift lsrFn)
  | pha : IsHandler handlePha
  | jmp : IsHandler handleJmp
  | bvc : IsHandler handleBvc
  | cli : IsHandler handleCli
  | rts : IsHandler handleRts
  | adc : IsHandler handleAdc
  | rra : IsHandler handleRra
  | ror : IsHandler (handleShift rorFn)
  | pla : IsHandler handlePla
  | bvs : IsHandler handleBvs
  | sei : IsHandler handleSei
  | sta : IsHandler handleSta
  | sax : IsHandler handleSax
  | sty : IsHandler handleSty
  | stx : IsHandler handleStx
  | dey : IsHandler handleDey
  | txa : IsHandler handleTxa
  | bcc : IsHandler handleBcc
  | tya : IsHandler handleTya
  | txs : IsHandler handleTxs
  | ldy : IsHandler handleLdy
  | lda : IsHandler handleLda
  | ldx : IsHandler handleLdx
  | lax : IsHandler handleLax
  | tay : IsHandler handleTay
  | tax : IsHandler handleTax
  | bcs : IsHandler handleBcs
  | clv : IsHandler handleClv
  | tsx : IsHandler handleTsx
  | cpy : IsHandler handleCpy
  | cmp : IsHandler handleCmp
  | dcp : IsHandler handleDcp
  | dec : IsHandler handleDec
  | iny : IsHandler handleIny
  | dex : IsHandler handleDex
  | bne : IsHandler handleBne
  | cld : IsHandler handleCld
  | cpx : IsHandler handleCpx
  | sbc : IsHandler handleSbc
  | isc : IsHandler handleIsc
  | inc : IsHandler handleInc
  | inx : IsHandler handleInx
  | beq : IsHandler handleBeq
  | sed : IsHandler handleSed

/-- Every instruction is one of the handlers run by `perform`. -/
theorem exec_perform (i : Instr) : ∃ h, IsHandler h ∧ ∀ s, exec i s = perform i h s := by
  cases i with
  | oraIzx b => exact ⟨_, .ora, fun _ => rfl⟩
  | sloIzx b => exact ⟨_, .slo, fun _ => rfl⟩
  | nopZp04 b => exact ⟨_, .nothing, fun _ => rfl⟩
  | oraZp b => exact ⟨_, .ora, fun _ => rfl⟩
  | aslZp b => exact ⟨_, .asl, fun _ => rfl⟩
  | sloZp b => exact ⟨_, .slo, fun _ => rfl⟩
  | oraImm b => exact ⟨_, .ora, fun _ => rfl⟩
  | ancImm0B b => exact ⟨_, .nothing, fun _ => rfl⟩
  | nopAbs0C w => exact ⟨_, .nothing, fun _ => rfl⟩
  | oraAbs w => exact ⟨_, .ora, fun _ => rfl⟩
  | aslAbs w => exact ⟨_, .asl, fun _ => rfl⟩
  | sloAbs w => exact ⟨_, .slo, fun _ => rfl⟩
  | bpl b => exact ⟨_, .bpl, fun _ => rfl⟩
  | oraIzy b => exact ⟨_, .ora, fun _ => rfl⟩
  | sloIzy b => exact ⟨_, .slo, fun _ => rfl⟩
  | nopZpx14 b => exact ⟨_, .nothing, fun _ => rfl⟩
  | oraZpx b => exact ⟨_, .ora, fun _ => rfl⟩
  | aslZpx b => exact ⟨_, .asl, fun _ => rfl⟩
  | sloZpx b => exact ⟨_, .slo, fun _ => rfl⟩
  | oraAby w => exact ⟨_, .ora, fun _ => rfl⟩
  | sloAby w => exact ⟨_, .slo, fun _ => rfl⟩
  | nopAbx1C w => exact ⟨_, .nothing, fun _ => rfl⟩
  | oraAbx w => exact ⟨_, .ora, fun _ => rfl⟩
  | aslAbx w => exact ⟨_, .asl, fun _ => rfl⟩
  | sloAbx w => exact ⟨_, .slo, fun _ => rfl⟩
  | jsrAbs w => exact ⟨_, .jsr, fun _ => rfl⟩
  | andIzx b => exact ⟨_, .and, fun _ => rfl⟩
  | rlaIzx b => exact ⟨_, .rla, fun _ => rfl⟩
  | bitZp b => exact ⟨_, .bit, fun _ => rfl⟩
  | andZp b => exact ⟨_, .and, fun _ => rfl⟩
  | rolZp b => exact ⟨_, .rol, fun _ => rfl⟩
  | rlaZp b => exact ⟨_, .rla, fun _ => rfl⟩
  | andImm b => exact ⟨_, .and, fun _ => rfl⟩
  | ancImm2B b => exact ⟨_, .nothing, fun _ => rfl⟩
  | bitAbs w => exact ⟨_, .bit, fun _ => rfl⟩
  | andAbs w => exact ⟨_, .and, fun _ => rfl⟩
  | rolAbs w => exact ⟨_, .rol, fun _ => rfl⟩
  | rlaAbs w => exact ⟨_, .rla, fun _ => rfl⟩
  | bmi b => exact ⟨_, .bmi, fun _ => rfl⟩
  | andIzy b => exact ⟨_, .and, fun _ => rfl⟩
  | rlaIzy b => exact ⟨_, .rla, fun _ => rfl⟩
  | nopZpx34 b => exact ⟨_, .nothing, fun _ => rfl⟩
  | andZpx b => exact ⟨_, .and, fun _ => rfl⟩
  | rolZpx b => exact ⟨_, .rol, fun _ => rfl⟩
  | rlaZpx b => exact ⟨_, .rla, fun _ => rfl⟩
  | andAby w => exact ⟨_, .and, fun _ => rfl⟩
  | rlaAby w => exact ⟨_, .rla, fun _ => rfl⟩
  | nopAbx3C w => exact ⟨_, .nothing, fun _ => rfl⟩
  | andAbx w => exact ⟨_, .and, fun _ => rfl⟩
  | rolAbx w => exact ⟨_, .rol, fun _ => rfl⟩
  | rlaAbx w => exact ⟨_, .rla, fun _ => rfl⟩
  | eorIzx b => exact ⟨_, .eor, fun _ => rfl⟩
  | sreIzx b => exact ⟨_, .sre, fun _ => rfl⟩
  | nopZp44 b => exact ⟨_, .nothing, fun _ => rfl⟩
  | eorZp b => exact ⟨_, .eor, fun _ => rfl⟩
  | lsrZp b => exact ⟨_, .lsr, fun _ => rfl⟩
  | sreZp b => exact ⟨_, .sre, fun _ => rfl⟩
  | eorImm b => exact ⟨_, .eor, fun _ => rfl⟩
  | alrImm b => exact ⟨_, .nothing, fun _ => rfl⟩
  | jmpAbs w => exact ⟨_, .jmp, fun _ => rfl⟩
  | eorAbs w => exact ⟨_, .eor, fun _ => rfl⟩
  | lsrAbs w => exact ⟨_, .lsr, fun _ => rfl⟩
  | sreAbs w => exact ⟨_, .sre, fun _ => rfl⟩
  | bvc b => exact ⟨_, .bvc, fun _ => rfl⟩
  | eorIzy b => exact ⟨_, .eor, fun _ => rfl⟩
  | sreIzy b => exact ⟨_, .sre, fun _ => rfl⟩
  | nopZpx54 b => exact ⟨_, .nothing, fun _ => rfl⟩
  | eorZpx b => exact ⟨_, .eor, fun _ => rfl⟩
  | lsrZpx b => exact ⟨_, .lsr, fun _ => rfl⟩
  | sreZpx b => exact ⟨_, .sre, fun _ => rfl⟩
  | eorAby w => exact ⟨_, .eor, fun _ => rfl⟩
  | sreAby w => exact ⟨_, .sre, fun _ => rfl⟩
  | nopAbx5C w => exact ⟨_, .nothing, fun _ => rfl⟩
  | eorAbx w => exact ⟨_, .eor, fun _ => rfl⟩
  | lsrAbx w => exact ⟨_, .lsr, fun _ => rfl⟩
  | sreAbx w => exact ⟨_, .sre, fun _ => rfl⟩
  | adcIzx b => exact ⟨_, .adc, fun _ => rfl⟩
  | rraIzx b => exact ⟨_, .rra, fun _ => rfl⟩
  | nopZp64 b => exact ⟨_, .nothing, fun _ => rfl⟩
  | adcZp b => exact ⟨_, .adc, fun _ => rfl⟩
  | rorZp b => exact ⟨_, .ror, fun _ => rfl⟩
  | rraZp b => exact ⟨_, .rra, fun _ => rfl⟩
  | adcImm b => exact ⟨_, .adc, fun _ => rfl⟩
  | arrImm b => exact ⟨_, .nothing, fun _ => rfl⟩
  | jmpInd w => exact ⟨_, .jmp, fun _ => rfl⟩
  | adcAbs w => exact ⟨_, .adc, fun _ => rfl⟩
  | rorAbs w => exact ⟨_, .ror, fun _ => rfl⟩
  | rraAbs w => exact ⟨_, .rra, fun _ => rfl⟩
  | bvs b => exact ⟨_, .bvs, fun _ => rfl⟩
  | adcIzy b => exact ⟨_, .adc, fun _ => rfl⟩
  | rraIzy b => exact ⟨_, .rra, fun _ => rfl⟩
  | nopZpx74 b => exact ⟨_, .nothing, fun _ => rfl⟩
  | adcZpx b => exact ⟨_, .adc, fun _ => rfl⟩
  | rorZpx b => exact ⟨_, .ror, fun _ => rfl⟩
  | rraZpx b => exact ⟨_, .rra, fun _ => rfl⟩
  | adcAby w => exact ⟨_, .adc, fun _ => rfl⟩
  | rraAby w => exact ⟨_, .rra, fun _ => rfl⟩
  | nopAbx7C w => exact ⟨_, .nothing, fun _ => rfl⟩
  | adcAbx w => exact ⟨_, .adc, fun _ => rfl⟩
  | rorAbx w => exact ⟨_, .ror, fun _ => rfl⟩
  | rraAbx w => exact ⟨_, .rra, fun _ => rfl⟩
  | nopImm80 b => exact ⟨_, .nothing, fun _ => rfl⟩
  | staIzx b => exact ⟨_, .sta, fun _ => rfl⟩
  | nopImm82 b => exact ⟨_, .nothing, fun _ => rfl⟩
  | saxIzx b => exact ⟨_, .sax, fun _ => rfl⟩
  | styZp b => exact ⟨_, .sty, fun _ => rfl⟩
  | staZp b => exact ⟨_, .sta, fun _ => rfl⟩
  | stxZp b => exact ⟨_, .stx, fun _ => rfl⟩
  | saxZp b => exact ⟨_, .sax, fun _ => rfl⟩
  | nopImm89 b => exact ⟨_, .nothing, fun _ => rfl⟩
  | xaaImm b => exact ⟨_, .nothing, fun _ => rfl⟩
  | styAbs w => exact ⟨_, .sty, fun _ => rfl⟩
  | staAbs w => exact ⟨_, .sta, fun _ => rfl⟩
  | stxAbs w => exact ⟨_, .stx, fun _ => rfl⟩
  | saxAbs w => exact ⟨_, .sax, fun _ => rfl⟩
  | bcc b => exact ⟨_, .bcc, fun _ => rfl⟩
  | staIzy b => exact ⟨_, .sta, fun _ => rfl⟩
  | ahxIzy b => exact ⟨_, .nothing, fun _ => rfl⟩
  | styZpx b => exact ⟨_, .sty, fun _ => rfl⟩
  | staZpx b => exact ⟨_, .sta, fun _ => rfl⟩
  | stxZpy b => exact ⟨_, .stx, fun _ => rfl⟩
  | saxZpy b => exact ⟨_, .sax, fun _ => rfl⟩
  | staAby w => exact ⟨_, .sta, fun _ => rfl⟩
  | tasAby w => exact ⟨_, .nothing, fun _ => rfl⟩
  | shyAbx w => exact ⟨_, .nothing, fun _ => rfl⟩
  | staAbx w => exact ⟨_, .sta, fun _ => rfl⟩
  | shxAby w => exact ⟨_, .nothing, fun _ => rfl⟩
  | ahxAby w => exact ⟨_, .nothing, fun _ => rfl⟩
  | ldyImm b => exact ⟨_, .ldy, fun _ => rfl⟩
  | ldaIzx b => exact ⟨_, .lda, fun _ => rfl⟩
  | ldxImm b => exact ⟨_, .ldx, fun _ => rfl⟩
  | laxIzx b => exact ⟨_, .lax, fun _ => rfl⟩
  | ldyZp b => exact ⟨_, .ldy, fun _ => rfl⟩
  | ldaZp b => exact ⟨_, .lda, fun _ => rfl⟩
  | ldxZp b => exact ⟨_, .ldx, fun _ => rfl⟩
  | laxZp b => exact ⟨_, .lax, fun _ => rfl⟩
  | ldaImm b => exact ⟨_, .lda, fun _ => rfl⟩
  | laxImm b => exact ⟨_, .lax, fun _ => rfl⟩
  | ldyAbs w => exact ⟨_, .ldy, fun _ => rfl⟩
  | ldaAbs w => exact ⟨_, .lda, fun _ => rfl⟩
  | ldxAbs w => exact ⟨_, .ldx, fun _ => rfl⟩
  | laxAbs w => exact ⟨_, .lax, fun _ => rfl⟩
  | bcs b => exact ⟨_, .bcs, fun _ => rfl⟩
  | ldaIzy b => exact ⟨_, .lda, fun _ => rfl⟩
  | laxIzy b => exact ⟨_, .lax, fun _ => rfl⟩
  | ldyZpx b => exact ⟨_, .ldy, fun _ => rfl⟩
  | ldaZpx b => exact ⟨_, .lda, fun _ => rfl⟩
  | ldxZpy b => exact ⟨_, .ldx, fun _ => rfl⟩
  | laxZpy b => exact ⟨_, .lax, fun _ => rfl⟩
  | ldaAby w => exact ⟨_, .lda, fun _ => rfl⟩
  | lasAby w => exact ⟨_, .nothing, fun _ => rfl⟩
  | ldyAbx w => exact ⟨_, .ldy, fun _ => rfl⟩
  | ldaAbx w => exact ⟨_, .lda, fun _ => rfl⟩
  | ldxAby w => exact ⟨_, .ldx, fun _ => rfl⟩
  | laxAby w => exact ⟨_, .lax, fun _ => rfl⟩
  | cpyImm b => exact ⟨_, .cpy, fun _ => rfl⟩
  | cmpIzx b => exact ⟨_, .cmp, fun _ => rfl⟩
  | nopImmC2 b => exact ⟨_, .nothing, fun _ => rfl⟩
  | dcpIzx b => exact ⟨_, .dcp, fun _ => rfl⟩
  | cpyZp b => exact ⟨_, .cpy, fun _ => rfl⟩
  | cmpZp b => exact ⟨_, .cmp, fun _ => rfl⟩
  | decZp b => exact ⟨_, .dec, fun _ => rfl⟩
  | dcpZp b => exact ⟨_, .dcp, fun _ => rfl⟩
  | cmpImm b => exact ⟨_, .cmp, fun _ => rfl⟩
  | axsImm b => exact ⟨_, .nothing, fun _ => rfl⟩
  | cpyAbs w => exact ⟨_, .cpy, fun _ => rfl⟩
  | cmpAbs w => exact ⟨_, .cmp, fun _ => rfl⟩
  | decAbs w => exact ⟨_, .dec, fun _ => rfl⟩
  | dcpAbs w => exact ⟨_, .dcp, fun _ => rfl⟩
  | bne b => exact ⟨_, .bne, fun _ => rfl⟩
  | cmpIzy b => exact ⟨_, .cmp, fun _ => rfl⟩
  | dcpIzy b => exact ⟨_, .dcp, fun _ => rfl⟩
  | nopZpxD4 b => exact ⟨_, .nothing, fun _ => rfl⟩
  | cmpZpx b => exact ⟨_, .cmp, fun _ => rfl⟩
  | decZpx b => exact ⟨_, .dec, fun _ => rfl⟩
  | dcpZpx b => exact ⟨_, .dcp, fun _ => rfl⟩
  | cmpAby w => exact ⟨_, .cmp, fun _ => rfl⟩
  | dcpAby w => exact ⟨_, .dcp, fun _ => rfl⟩
  | nopAbxDC w => exact ⟨_, .nothing, fun _ => rfl⟩
  | cmpAbx w => exact ⟨_, .cmp, fun _ => rfl⟩
  | decAbx w => exact ⟨_, .dec, fun _ => rfl⟩
  | dcpAbx w => exact ⟨_, .dcp, fun _ => rfl⟩
  | cpxImm b => exact ⟨_, .cpx, fun _ => rfl⟩
  | sbcIzx b => exact ⟨_, .sbc, fun _ => rfl⟩
  | nopImmE2 b => exact ⟨_, .nothing, fun _ => rfl⟩
  | iscIzx b => exact ⟨_, .isc, fun _ => rfl⟩
  | cpxZp b => exact ⟨_, .cpx, fun _ => rfl⟩
  | sbcZp b => exact ⟨_, .sbc, fun _ => rfl⟩
  | incZp b => exact ⟨_, .inc, fun _ => rfl⟩
  | iscZp b => exact ⟨_, .isc, fun _ => rfl⟩
  | sbcImm b => exact ⟨_, .sbc, fun _ => rfl⟩
  | sbcImmEB b => exact ⟨_, .sbc, fun _ => rfl⟩
  | cpxAbs w => exact ⟨_, .cpx, fun _ => rfl⟩
  | sbcAbs w => exact ⟨_, .sbc, fun _ => rfl⟩
  | incAbs w => exact ⟨_, .inc, fun _ => rfl⟩
  | iscAbs w => exact ⟨_, .isc, fun _ => rfl⟩
  | beq b => exact ⟨_, .beq, fun _ => rfl⟩
  | sbcIzy b => exact ⟨_, .sbc, fun _ => rfl⟩
  | iscIzy b => exact ⟨_, .isc, fun _ => rfl⟩
  | nopZpxF4 b => exact ⟨_, .nothing, fun _ => rfl⟩
  | sbcZpx b => exact ⟨_, .sbc, fun _ => rfl⟩
  | incZpx b => exact ⟨_, .inc, fun _ => rfl⟩
  | iscZpx b => exact ⟨_, .isc, fun _ => rfl⟩
  | sbcAby w => exact ⟨_, .sbc, fun _ => rfl⟩
  | iscAby w => exact ⟨_, .isc, fun _ => rfl⟩
  | nopAbxFC w => exact ⟨_, .nothing, fun _ => rfl⟩
  | sbcAbx w => exact ⟨_, .sbc, fun _ => rfl⟩
  | incAbx w => exact ⟨_, .inc, fun _ => rfl⟩
  | iscAbx w => exact ⟨_, .isc, fun _ => rfl⟩
  | brk => exact ⟨_, .brk, fun _ => rfl⟩
  | kil02 => exact ⟨_, .nothing, fun _ => rfl⟩
  | php => exact ⟨_, .php, fun _ => rfl⟩
  | aslAcc => exact ⟨_, .asl, fun _ => rfl⟩
  | kil12 => exact ⟨_, .nothing, fun _ => rfl⟩
  | clc => exact ⟨_, .clc, fun _ => rfl⟩
  | nopImp1A => exact ⟨_, .nothing, fun _ => rfl⟩
  | kil22 => exact ⟨_, .nothing, fun _ => rfl⟩
  | plp => exact ⟨_, .plp, fun _ => rfl⟩
  | rolAcc => exact ⟨_, .rol, fun _ => rfl⟩
  | kil32 => exact ⟨_, .nothing, fun _ => rfl⟩
  | sec => exact ⟨_, .sec, fun _ => rfl⟩
  | nopImp3A => exact ⟨_, .nothing, fun _ => rfl⟩
  | rti => exact ⟨_, .rti, fun _ => rfl⟩
  | kil42 => exact ⟨_, .nothing, fun _ => rfl⟩
  | pha => exact ⟨_, .pha, fun _ => rfl⟩
  | lsrAcc => exact ⟨_, .lsr, fun _ => rfl⟩
  | kil52 => exact ⟨_, .nothing, fun _ => rfl⟩
  | cli => exact ⟨_, .cli, fun _ => rfl⟩
  | nopImp5A => exact ⟨_, .nothing, fun _ => rfl⟩
  | rts => exact ⟨_, .rts, fun _ => rfl⟩
  | kil62 => exact ⟨_, .nothing, fun _ => rfl⟩
  | pla => exact ⟨_, .pla, fun _ => rfl⟩
  | rorAcc => exact ⟨_, .ror, fun _ => rfl⟩
  | kil72 => exact ⟨_, .nothing, fun _ => rfl⟩
  | sei => exact ⟨_, .sei, fun _ => rfl⟩
  | nopImp7A => exact ⟨_, .nothing, fun _ => rfl⟩
  | dey => exact ⟨_, .dey, fun _ => rfl⟩
  | txa => exact ⟨_, .txa, fun _ => rfl⟩
  | kil92 => exact ⟨_, .nothing, fun _ => rfl⟩
  | tya => exact ⟨_, .tya, fun _ => rfl⟩
  | txs => exact ⟨_, .txs, fun _ => rfl⟩
  | tay => exact ⟨_, .tay, fun _ => rfl⟩
  | tax => exact ⟨_, .tax, fun _ => rfl⟩
  | kilB2 => exact ⟨_, .nothing, fun _ => rfl⟩
  | clv => exact ⟨_, .clv, fun _ => rfl⟩
  | tsx => exact ⟨_, .tsx, fun _ => rfl⟩
  | iny => exact ⟨_, .iny, fun _ => rfl⟩
  | dex => exact ⟨_, .dex, fun _ => rfl⟩
  | kilD2 => exact ⟨_, .nothing, fun _ => rfl⟩
  | cld => exact ⟨_, .cld, fun _ => rfl⟩
  | nopImpDA => exact ⟨_, .nothing, fun _ => rfl⟩
  | inx => exact ⟨_, .inx, fun _ => rfl⟩
  | nop => exact ⟨_, .nothing, fun _ => rfl⟩
  | kilF2 => exact ⟨_, .nothing, fun _ => rfl⟩
  | sed => exact ⟨_, .sed, fun _ => rfl⟩
  | nopImpFA => exact ⟨_, .nothing, fun _ => rfl⟩

end Sys2Proof.Machine
end

