-- ==== Sys2Proof/Laws/Memory.lean ====
section
/-! SUPPORT. The laws of the flat RAM: a read after a write, and that a write keeps the canonical form. -/

namespace Sys2Proof.Machine

/-- An address below every listed one reads as an unlisted address. -/
theorem memRead_below (m : Memory) (a : Nat) (h : ∀ c ∈ m, a < c.1) : memRead m a = Config.unlistedByte := by
  induction m with
  | nil => rfl
  | cons c rest ih =>
    have hc := h c List.mem_cons_self
    obtain ⟨b, v⟩ := c
    simp only [memRead]
    rw [if_neg (by simp only at hc; omega)]
    exact ih fun d hd => h d (List.mem_cons_of_mem _ hd)

/-- A read after a write of a sorted memory gives the byte written at that address and the old byte elsewhere. -/
theorem memRead_memWrite (m : Memory) (h : m.Pairwise (fun c d => c.1 < d.1)) (a a' : Nat) (v : Byte) :
    memRead (memWrite m a v) a' = if a' = a then v else memRead m a' := by
  induction m with
  | nil =>
    simp only [memWrite]
    split
    · subst v; simp only [memRead]; split <;> rfl
    · simp only [memRead]; by_cases ha : a = a' <;> simp [ha, eq_comm]
  | cons c rest ih =>
    obtain ⟨b, w⟩ := c
    obtain ⟨hlow, hrest⟩ := List.pairwise_cons.mp h
    have hbelow : ∀ k, k ≤ b → memRead rest k = Config.unlistedByte :=
      fun k hk => memRead_below rest k fun d hd => Nat.lt_of_le_of_lt hk (hlow d hd)
    simp only [memWrite]
    by_cases hab : a < b
    · rw [if_pos hab]
      by_cases hv : v = Config.unlistedByte
      · rw [if_pos hv]
        by_cases ha : a' = a
        · subst ha; rw [if_pos rfl]
          simp only [memRead, if_neg (show ¬ b = a' by omega), hbelow a' (by omega), hv]
        · rw [if_neg ha]
      · rw [if_neg hv]
        simp only [memRead]
        by_cases ha : a' = a
        · simp [ha]
        · simp [ha, Ne.symm ha]
    · rw [if_neg hab]
      by_cases hab' : a = b
      · subst hab'
        rw [if_pos rfl]
        by_cases hv : v = Config.unlistedByte
        · rw [if_pos hv]
          by_cases ha : a' = a
          · subst ha; rw [if_pos rfl, hbelow a' (Nat.le_refl _), hv]
          · simp only [memRead, if_neg ha, if_neg (Ne.symm ha)]
        · rw [if_neg hv]
          simp only [memRead]
          by_cases ha : a' = a
          · simp [ha]
          · simp [ha, Ne.symm ha]
      · rw [if_neg hab']
        simp only [memRead, ih hrest]
        by_cases hb : b = a'
        · subst hb; rw [if_pos rfl, if_neg (by omega), if_pos rfl]
        · simp only [if_neg hb]

/-- Every entry of a written memory is the new one or an old one. -/
theorem mem_memWrite (m : Memory) (a : Nat) (v : Byte) (c : Host.Cell) (h : c ∈ memWrite m a v) :
    (c = (a, v) ∧ v ≠ Config.unlistedByte) ∨ c ∈ m := by
  induction m with
  | nil =>
    simp only [memWrite] at h
    split at h
    · cases h
    · exact .inl ⟨by simpa using h, ‹_›⟩
  | cons d rest ih =>
    obtain ⟨b, w⟩ := d
    simp only [memWrite] at h
    split at h
    · split at h
      · exact .inr h
      · rcases List.mem_cons.mp h with h | h
        · exact .inl ⟨h, ‹_›⟩
        · exact .inr h
    · split at h
      · split at h
        · exact .inr (List.mem_cons_of_mem _ h)
        · rcases List.mem_cons.mp h with h | h
          · exact .inl ⟨h, ‹_›⟩
          · exact .inr (List.mem_cons_of_mem _ h)
      · rcases List.mem_cons.mp h with h | h
        · exact .inr (h ▸ List.mem_cons_self)
        · exact (ih h).imp id (List.mem_cons_of_mem _)

/-- A write keeps the addresses sorted. -/
theorem memWrite_sorted (m : Memory) (a : Nat) (v : Byte) (h : m.Pairwise (fun c d => c.1 < d.1)) :
    (memWrite m a v).Pairwise (fun c d => c.1 < d.1) := by
  induction m with
  | nil => simp only [memWrite]; split <;> simp
  | cons d rest ih =>
    obtain ⟨b, w⟩ := d
    obtain ⟨hlow, hrest⟩ := List.pairwise_cons.mp h
    simp only [memWrite]
    split
    · split
      · exact h
      · refine List.pairwise_cons.mpr ⟨fun c hc => ?_, h⟩
        rcases List.mem_cons.mp hc with rfl | hc
        · assumption
        · exact Nat.lt_trans ‹a < b› (hlow c hc)
    · split
      · split
        · exact hrest
        · subst ‹a = b›; exact List.pairwise_cons.mpr ⟨hlow, hrest⟩
      · refine List.pairwise_cons.mpr ⟨fun c hc => ?_, ih hrest⟩
        rcases mem_memWrite rest a v c hc with ⟨rfl, _⟩ | hc
        · show b < a; omega
        · exact hlow c hc

/-- A write inside the address space keeps the canonical form. -/
theorem memWrite_wf (m : Memory) (a : Nat) (v : Byte) (ha : a < 65536) (h : Memory.wf m) :
    Memory.wf (memWrite m a v) := by
  refine ⟨memWrite_sorted m a v h.1, fun c hc => ?_⟩
  rcases mem_memWrite m a v c hc with ⟨rfl, hv⟩ | hc
  · exact ⟨ha, hv⟩
  · exact h.2 c hc

/-- The memory of the reset state is in canonical form. -/
theorem reset_mem_wf : Memory.wf State.reset.mem := ⟨.nil, fun _ h => nomatch h⟩

/-- What a Bus write leaves to be read. -/
theorem State.busWrite_byteAt (s : State) (b : Word) (v : Byte) (h : Memory.wf s.mem) (addr : Word) :
    (s.busWrite b v).byteAt addr = if addr = b then v else s.byteAt addr := by
  simp only [State.byteAt, State.busWrite, memRead_memWrite _ h.1, BitVec.toNat_inj]

/-- What the Bus returns after a Bus write: the host's answer, else the byte written, else the byte as before. -/
theorem State.busWrite_busByte (s : State) (b : Word) (v : Byte) (h : Memory.wf s.mem) (k : Nat) (addr : Word) :
    (s.busWrite b v).busByte k addr = if addr = b then s.answers[k]?.join.getD v else s.busByte k addr := by
  simp only [State.busByte, State.busWrite_byteAt _ _ _ h, apply_ite]
  split <;> rfl

/-- A Bus write keeps the canonical form. -/
theorem State.busWrite_wf (s : State) (b : Word) (v : Byte) (h : Memory.wf s.mem) :
    Memory.wf (s.busWrite b v).mem := memWrite_wf _ _ _ b.isLt h

/-- What a push leaves to be read. -/
theorem State.push_byteAt (s : State) (v : Byte) (h : Memory.wf s.mem) (addr : Word) :
    (s.push v).byteAt addr = if addr = stackAddr s.sp then v else s.byteAt addr :=
  s.busWrite_byteAt _ v h addr

/-- A push keeps the canonical form. -/
theorem State.push_wf (s : State) (v : Byte) (h : Memory.wf s.mem) : Memory.wf (s.push v).mem :=
  s.busWrite_wf _ v h

end Sys2Proof.Machine
end

