-- ==== Sys2Proof/Laws/State.lean ====
section
/-! SUPPORT. What each update of the state leaves in each field: one lemma a field and update, true by rfl, so that no
later proof unfolds a record update. -/

namespace Sys2Proof.Machine

/-! ### setA -/

@[simp] theorem State.setA_a (s : State) (v : Byte) : (s.setA v).a = v := (rfl)
@[simp] theorem State.setA_x (s : State) (v : Byte) : (s.setA v).x = s.x := (rfl)
@[simp] theorem State.setA_y (s : State) (v : Byte) : (s.setA v).y = s.y := (rfl)
@[simp] theorem State.setA_sp (s : State) (v : Byte) : (s.setA v).sp = s.sp := (rfl)
@[simp] theorem State.setA_pc (s : State) (v : Byte) : (s.setA v).pc = s.pc := (rfl)
@[simp] theorem State.setA_p (s : State) (v : Byte) : (s.setA v).p = s.p := (rfl)
@[simp] theorem State.setA_mode (s : State) (v : Byte) : (s.setA v).mode = s.mode := (rfl)
@[simp] theorem State.setA_ea (s : State) (v : Byte) : (s.setA v).ea = s.ea := (rfl)
@[simp] theorem State.setA_cycles (s : State) (v : Byte) : (s.setA v).cycles = s.cycles := (rfl)
@[simp] theorem State.setA_lastOpcode (s : State) (v : Byte) : (s.setA v).lastOpcode = s.lastOpcode := (rfl)
@[simp] theorem State.setA_mem (s : State) (v : Byte) : (s.setA v).mem = s.mem := (rfl)
@[simp] theorem State.setA_answers (s : State) (v : Byte) : (s.setA v).answers = s.answers := (rfl)
@[simp] theorem State.setA_trace (s : State) (v : Byte) : (s.setA v).trace = s.trace := (rfl)
@[simp] theorem State.setA_calls (s : State) (v : Byte) : (s.setA v).calls = s.calls := (rfl)
@[simp] theorem State.setA_live (s : State) (v : Byte) : (s.setA v).live = s.live := (rfl)
@[simp] theorem State.setA_sentinels (s : State) (v : Byte) : (s.setA v).sentinels = s.sentinels := (rfl)
@[simp] theorem State.setA_byteAt (s : State) (v : Byte) (addr : Word) : (s.setA v).byteAt addr = s.byteAt addr := (rfl)
@[simp] theorem State.setA_busByte (s : State) (v : Byte) (k : Nat) (addr : Word) : (s.setA v).busByte k addr = s.busByte k addr := (rfl)

/-! ### setX -/

@[simp] theorem State.setX_a (s : State) (v : Byte) : (s.setX v).a = s.a := (rfl)
@[simp] theorem State.setX_x (s : State) (v : Byte) : (s.setX v).x = v := (rfl)
@[simp] theorem State.setX_y (s : State) (v : Byte) : (s.setX v).y = s.y := (rfl)
@[simp] theorem State.setX_sp (s : State) (v : Byte) : (s.setX v).sp = s.sp := (rfl)
@[simp] theorem State.setX_pc (s : State) (v : Byte) : (s.setX v).pc = s.pc := (rfl)
@[simp] theorem State.setX_p (s : State) (v : Byte) : (s.setX v).p = s.p := (rfl)
@[simp] theorem State.setX_mode (s : State) (v : Byte) : (s.setX v).mode = s.mode := (rfl)
@[simp] theorem State.setX_ea (s : State) (v : Byte) : (s.setX v).ea = s.ea := (rfl)
@[simp] theorem State.setX_cycles (s : State) (v : Byte) : (s.setX v).cycles = s.cycles := (rfl)
@[simp] theorem State.setX_lastOpcode (s : State) (v : Byte) : (s.setX v).lastOpcode = s.lastOpcode := (rfl)
@[simp] theorem State.setX_mem (s : State) (v : Byte) : (s.setX v).mem = s.mem := (rfl)
@[simp] theorem State.setX_answers (s : State) (v : Byte) : (s.setX v).answers = s.answers := (rfl)
@[simp] theorem State.setX_trace (s : State) (v : Byte) : (s.setX v).trace = s.trace := (rfl)
@[simp] theorem State.setX_calls (s : State) (v : Byte) : (s.setX v).calls = s.calls := (rfl)
@[simp] theorem State.setX_live (s : State) (v : Byte) : (s.setX v).live = s.live := (rfl)
@[simp] theorem State.setX_sentinels (s : State) (v : Byte) : (s.setX v).sentinels = s.sentinels := (rfl)
@[simp] theorem State.setX_byteAt (s : State) (v : Byte) (addr : Word) : (s.setX v).byteAt addr = s.byteAt addr := (rfl)
@[simp] theorem State.setX_busByte (s : State) (v : Byte) (k : Nat) (addr : Word) : (s.setX v).busByte k addr = s.busByte k addr := (rfl)

/-! ### setY -/

@[simp] theorem State.setY_a (s : State) (v : Byte) : (s.setY v).a = s.a := (rfl)
@[simp] theorem State.setY_x (s : State) (v : Byte) : (s.setY v).x = s.x := (rfl)
@[simp] theorem State.setY_y (s : State) (v : Byte) : (s.setY v).y = v := (rfl)
@[simp] theorem State.setY_sp (s : State) (v : Byte) : (s.setY v).sp = s.sp := (rfl)
@[simp] theorem State.setY_pc (s : State) (v : Byte) : (s.setY v).pc = s.pc := (rfl)
@[simp] theorem State.setY_p (s : State) (v : Byte) : (s.setY v).p = s.p := (rfl)
@[simp] theorem State.setY_mode (s : State) (v : Byte) : (s.setY v).mode = s.mode := (rfl)
@[simp] theorem State.setY_ea (s : State) (v : Byte) : (s.setY v).ea = s.ea := (rfl)
@[simp] theorem State.setY_cycles (s : State) (v : Byte) : (s.setY v).cycles = s.cycles := (rfl)
@[simp] theorem State.setY_lastOpcode (s : State) (v : Byte) : (s.setY v).lastOpcode = s.lastOpcode := (rfl)
@[simp] theorem State.setY_mem (s : State) (v : Byte) : (s.setY v).mem = s.mem := (rfl)
@[simp] theorem State.setY_answers (s : State) (v : Byte) : (s.setY v).answers = s.answers := (rfl)
@[simp] theorem State.setY_trace (s : State) (v : Byte) : (s.setY v).trace = s.trace := (rfl)
@[simp] theorem State.setY_calls (s : State) (v : Byte) : (s.setY v).calls = s.calls := (rfl)
@[simp] theorem State.setY_live (s : State) (v : Byte) : (s.setY v).live = s.live := (rfl)
@[simp] theorem State.setY_sentinels (s : State) (v : Byte) : (s.setY v).sentinels = s.sentinels := (rfl)
@[simp] theorem State.setY_byteAt (s : State) (v : Byte) (addr : Word) : (s.setY v).byteAt addr = s.byteAt addr := (rfl)
@[simp] theorem State.setY_busByte (s : State) (v : Byte) (k : Nat) (addr : Word) : (s.setY v).busByte k addr = s.busByte k addr := (rfl)

/-! ### setSP -/

@[simp] theorem State.setSP_a (s : State) (v : Byte) : (s.setSP v).a = s.a := (rfl)
@[simp] theorem State.setSP_x (s : State) (v : Byte) : (s.setSP v).x = s.x := (rfl)
@[simp] theorem State.setSP_y (s : State) (v : Byte) : (s.setSP v).y = s.y := (rfl)
@[simp] theorem State.setSP_sp (s : State) (v : Byte) : (s.setSP v).sp = v := (rfl)
@[simp] theorem State.setSP_pc (s : State) (v : Byte) : (s.setSP v).pc = s.pc := (rfl)
@[simp] theorem State.setSP_p (s : State) (v : Byte) : (s.setSP v).p = s.p := (rfl)
@[simp] theorem State.setSP_mode (s : State) (v : Byte) : (s.setSP v).mode = s.mode := (rfl)
@[simp] theorem State.setSP_ea (s : State) (v : Byte) : (s.setSP v).ea = s.ea := (rfl)
@[simp] theorem State.setSP_cycles (s : State) (v : Byte) : (s.setSP v).cycles = s.cycles := (rfl)
@[simp] theorem State.setSP_lastOpcode (s : State) (v : Byte) : (s.setSP v).lastOpcode = s.lastOpcode := (rfl)
@[simp] theorem State.setSP_mem (s : State) (v : Byte) : (s.setSP v).mem = s.mem := (rfl)
@[simp] theorem State.setSP_answers (s : State) (v : Byte) : (s.setSP v).answers = s.answers := (rfl)
@[simp] theorem State.setSP_trace (s : State) (v : Byte) : (s.setSP v).trace = s.trace := (rfl)
@[simp] theorem State.setSP_calls (s : State) (v : Byte) : (s.setSP v).calls = s.calls := (rfl)
@[simp] theorem State.setSP_live (s : State) (v : Byte) : (s.setSP v).live = s.live := (rfl)
@[simp] theorem State.setSP_sentinels (s : State) (v : Byte) : (s.setSP v).sentinels = s.sentinels := (rfl)
@[simp] theorem State.setSP_byteAt (s : State) (v : Byte) (addr : Word) : (s.setSP v).byteAt addr = s.byteAt addr := (rfl)
@[simp] theorem State.setSP_busByte (s : State) (v : Byte) (k : Nat) (addr : Word) : (s.setSP v).busByte k addr = s.busByte k addr := (rfl)

/-! ### setPC -/

@[simp] theorem State.setPC_a (s : State) (w : Word) : (s.setPC w).a = s.a := (rfl)
@[simp] theorem State.setPC_x (s : State) (w : Word) : (s.setPC w).x = s.x := (rfl)
@[simp] theorem State.setPC_y (s : State) (w : Word) : (s.setPC w).y = s.y := (rfl)
@[simp] theorem State.setPC_sp (s : State) (w : Word) : (s.setPC w).sp = s.sp := (rfl)
@[simp] theorem State.setPC_pc (s : State) (w : Word) : (s.setPC w).pc = w := (rfl)
@[simp] theorem State.setPC_p (s : State) (w : Word) : (s.setPC w).p = s.p := (rfl)
@[simp] theorem State.setPC_mode (s : State) (w : Word) : (s.setPC w).mode = s.mode := (rfl)
@[simp] theorem State.setPC_ea (s : State) (w : Word) : (s.setPC w).ea = s.ea := (rfl)
@[simp] theorem State.setPC_cycles (s : State) (w : Word) : (s.setPC w).cycles = s.cycles := (rfl)
@[simp] theorem State.setPC_lastOpcode (s : State) (w : Word) : (s.setPC w).lastOpcode = s.lastOpcode := (rfl)
@[simp] theorem State.setPC_mem (s : State) (w : Word) : (s.setPC w).mem = s.mem := (rfl)
@[simp] theorem State.setPC_answers (s : State) (w : Word) : (s.setPC w).answers = s.answers := (rfl)
@[simp] theorem State.setPC_trace (s : State) (w : Word) : (s.setPC w).trace = s.trace := (rfl)
@[simp] theorem State.setPC_calls (s : State) (w : Word) : (s.setPC w).calls = s.calls := (rfl)
@[simp] theorem State.setPC_live (s : State) (w : Word) : (s.setPC w).live = s.live := (rfl)
@[simp] theorem State.setPC_sentinels (s : State) (w : Word) : (s.setPC w).sentinels = s.sentinels := (rfl)
@[simp] theorem State.setPC_byteAt (s : State) (w : Word) (addr : Word) : (s.setPC w).byteAt addr = s.byteAt addr := (rfl)
@[simp] theorem State.setPC_busByte (s : State) (w : Word) (k : Nat) (addr : Word) : (s.setPC w).busByte k addr = s.busByte k addr := (rfl)

/-! ### setP -/

@[simp] theorem State.setP_a (s : State) (q : Flags) : (s.setP q).a = s.a := (rfl)
@[simp] theorem State.setP_x (s : State) (q : Flags) : (s.setP q).x = s.x := (rfl)
@[simp] theorem State.setP_y (s : State) (q : Flags) : (s.setP q).y = s.y := (rfl)
@[simp] theorem State.setP_sp (s : State) (q : Flags) : (s.setP q).sp = s.sp := (rfl)
@[simp] theorem State.setP_pc (s : State) (q : Flags) : (s.setP q).pc = s.pc := (rfl)
@[simp] theorem State.setP_p (s : State) (q : Flags) : (s.setP q).p = q := (rfl)
@[simp] theorem State.setP_mode (s : State) (q : Flags) : (s.setP q).mode = s.mode := (rfl)
@[simp] theorem State.setP_ea (s : State) (q : Flags) : (s.setP q).ea = s.ea := (rfl)
@[simp] theorem State.setP_cycles (s : State) (q : Flags) : (s.setP q).cycles = s.cycles := (rfl)
@[simp] theorem State.setP_lastOpcode (s : State) (q : Flags) : (s.setP q).lastOpcode = s.lastOpcode := (rfl)
@[simp] theorem State.setP_mem (s : State) (q : Flags) : (s.setP q).mem = s.mem := (rfl)
@[simp] theorem State.setP_answers (s : State) (q : Flags) : (s.setP q).answers = s.answers := (rfl)
@[simp] theorem State.setP_trace (s : State) (q : Flags) : (s.setP q).trace = s.trace := (rfl)
@[simp] theorem State.setP_calls (s : State) (q : Flags) : (s.setP q).calls = s.calls := (rfl)
@[simp] theorem State.setP_live (s : State) (q : Flags) : (s.setP q).live = s.live := (rfl)
@[simp] theorem State.setP_sentinels (s : State) (q : Flags) : (s.setP q).sentinels = s.sentinels := (rfl)
@[simp] theorem State.setP_byteAt (s : State) (q : Flags) (addr : Word) : (s.setP q).byteAt addr = s.byteAt addr := (rfl)
@[simp] theorem State.setP_busByte (s : State) (q : Flags) (k : Nat) (addr : Word) : (s.setP q).busByte k addr = s.busByte k addr := (rfl)

/-! ### addCycles -/

@[simp] theorem State.addCycles_a (s : State) (n : Nat) : (s.addCycles n).a = s.a := (rfl)
@[simp] theorem State.addCycles_x (s : State) (n : Nat) : (s.addCycles n).x = s.x := (rfl)
@[simp] theorem State.addCycles_y (s : State) (n : Nat) : (s.addCycles n).y = s.y := (rfl)
@[simp] theorem State.addCycles_sp (s : State) (n : Nat) : (s.addCycles n).sp = s.sp := (rfl)
@[simp] theorem State.addCycles_pc (s : State) (n : Nat) : (s.addCycles n).pc = s.pc := (rfl)
@[simp] theorem State.addCycles_p (s : State) (n : Nat) : (s.addCycles n).p = s.p := (rfl)
@[simp] theorem State.addCycles_mode (s : State) (n : Nat) : (s.addCycles n).mode = s.mode := (rfl)
@[simp] theorem State.addCycles_ea (s : State) (n : Nat) : (s.addCycles n).ea = s.ea := (rfl)
@[simp] theorem State.addCycles_cycles (s : State) (n : Nat) : (s.addCycles n).cycles = s.cycles + n := (rfl)
@[simp] theorem State.addCycles_lastOpcode (s : State) (n : Nat) : (s.addCycles n).lastOpcode = s.lastOpcode := (rfl)
@[simp] theorem State.addCycles_mem (s : State) (n : Nat) : (s.addCycles n).mem = s.mem := (rfl)
@[simp] theorem State.addCycles_answers (s : State) (n : Nat) : (s.addCycles n).answers = s.answers := (rfl)
@[simp] theorem State.addCycles_trace (s : State) (n : Nat) : (s.addCycles n).trace = s.trace := (rfl)
@[simp] theorem State.addCycles_calls (s : State) (n : Nat) : (s.addCycles n).calls = s.calls := (rfl)
@[simp] theorem State.addCycles_live (s : State) (n : Nat) : (s.addCycles n).live = s.live := (rfl)
@[simp] theorem State.addCycles_sentinels (s : State) (n : Nat) : (s.addCycles n).sentinels = s.sentinels := (rfl)
@[simp] theorem State.addCycles_byteAt (s : State) (n : Nat) (addr : Word) : (s.addCycles n).byteAt addr = s.byteAt addr := (rfl)
@[simp] theorem State.addCycles_busByte (s : State) (n : Nat) (k : Nat) (addr : Word) : (s.addCycles n).busByte k addr = s.busByte k addr := (rfl)

/-! ### beginCall -/

@[simp] theorem State.beginCall_a (s : State) : s.beginCall.a = s.a := (rfl)
@[simp] theorem State.beginCall_x (s : State) : s.beginCall.x = s.x := (rfl)
@[simp] theorem State.beginCall_y (s : State) : s.beginCall.y = s.y := (rfl)
@[simp] theorem State.beginCall_sp (s : State) : s.beginCall.sp = s.sp := (rfl)
@[simp] theorem State.beginCall_pc (s : State) : s.beginCall.pc = s.pc := (rfl)
@[simp] theorem State.beginCall_p (s : State) : s.beginCall.p = s.p := (rfl)
@[simp] theorem State.beginCall_mode (s : State) : s.beginCall.mode = s.mode := (rfl)
@[simp] theorem State.beginCall_ea (s : State) : s.beginCall.ea = s.ea := (rfl)
@[simp] theorem State.beginCall_cycles (s : State) : s.beginCall.cycles = s.cycles := (rfl)
@[simp] theorem State.beginCall_lastOpcode (s : State) : s.beginCall.lastOpcode = s.lastOpcode := (rfl)
@[simp] theorem State.beginCall_mem (s : State) : s.beginCall.mem = s.mem := (rfl)
@[simp] theorem State.beginCall_answers (s : State) : s.beginCall.answers = s.answers := (rfl)
@[simp] theorem State.beginCall_trace (s : State) : s.beginCall.trace = [] := (rfl)
@[simp] theorem State.beginCall_calls (s : State) : s.beginCall.calls = s.calls := (rfl)
@[simp] theorem State.beginCall_live (s : State) : s.beginCall.live = s.live := (rfl)
@[simp] theorem State.beginCall_sentinels (s : State) : s.beginCall.sentinels = s.sentinels := (rfl)
@[simp] theorem State.beginCall_byteAt (s : State) (addr : Word) : s.beginCall.byteAt addr = s.byteAt addr := (rfl)
@[simp] theorem State.beginCall_busByte (s : State) (k : Nat) (addr : Word) : s.beginCall.busByte k addr = s.busByte k addr := (rfl)

/-! ### noteRead -/

@[simp] theorem State.noteRead_a (s : State) (b : Word) (v : Byte) : (s.noteRead b v).a = s.a := (rfl)
@[simp] theorem State.noteRead_x (s : State) (b : Word) (v : Byte) : (s.noteRead b v).x = s.x := (rfl)
@[simp] theorem State.noteRead_y (s : State) (b : Word) (v : Byte) : (s.noteRead b v).y = s.y := (rfl)
@[simp] theorem State.noteRead_sp (s : State) (b : Word) (v : Byte) : (s.noteRead b v).sp = s.sp := (rfl)
@[simp] theorem State.noteRead_pc (s : State) (b : Word) (v : Byte) : (s.noteRead b v).pc = s.pc := (rfl)
@[simp] theorem State.noteRead_p (s : State) (b : Word) (v : Byte) : (s.noteRead b v).p = s.p := (rfl)
@[simp] theorem State.noteRead_mode (s : State) (b : Word) (v : Byte) : (s.noteRead b v).mode = s.mode := (rfl)
@[simp] theorem State.noteRead_ea (s : State) (b : Word) (v : Byte) : (s.noteRead b v).ea = s.ea := (rfl)
@[simp] theorem State.noteRead_cycles (s : State) (b : Word) (v : Byte) : (s.noteRead b v).cycles = s.cycles := (rfl)
@[simp] theorem State.noteRead_lastOpcode (s : State) (b : Word) (v : Byte) : (s.noteRead b v).lastOpcode = s.lastOpcode := (rfl)
@[simp] theorem State.noteRead_mem (s : State) (b : Word) (v : Byte) : (s.noteRead b v).mem = s.mem := (rfl)
@[simp] theorem State.noteRead_answers (s : State) (b : Word) (v : Byte) : (s.noteRead b v).answers = s.answers.drop 1 := (rfl)
@[simp] theorem State.noteRead_trace (s : State) (b : Word) (v : Byte) : (s.noteRead b v).trace = s.trace ++ [.read b v] := (rfl)
@[simp] theorem State.noteRead_calls (s : State) (b : Word) (v : Byte) : (s.noteRead b v).calls = s.calls := (rfl)
@[simp] theorem State.noteRead_live (s : State) (b : Word) (v : Byte) : (s.noteRead b v).live = s.live := (rfl)
@[simp] theorem State.noteRead_sentinels (s : State) (b : Word) (v : Byte) : (s.noteRead b v).sentinels = s.sentinels := (rfl)
@[simp] theorem State.noteRead_byteAt (s : State) (b : Word) (v : Byte) (addr : Word) : (s.noteRead b v).byteAt addr = s.byteAt addr := (rfl)

/-! ### busRead -/

@[simp] theorem State.busRead_a (s : State) (b : Word) : (s.busRead b).a = s.a := (rfl)
@[simp] theorem State.busRead_x (s : State) (b : Word) : (s.busRead b).x = s.x := (rfl)
@[simp] theorem State.busRead_y (s : State) (b : Word) : (s.busRead b).y = s.y := (rfl)
@[simp] theorem State.busRead_sp (s : State) (b : Word) : (s.busRead b).sp = s.sp := (rfl)
@[simp] theorem State.busRead_pc (s : State) (b : Word) : (s.busRead b).pc = s.pc := (rfl)
@[simp] theorem State.busRead_p (s : State) (b : Word) : (s.busRead b).p = s.p := (rfl)
@[simp] theorem State.busRead_mode (s : State) (b : Word) : (s.busRead b).mode = s.mode := (rfl)
@[simp] theorem State.busRead_ea (s : State) (b : Word) : (s.busRead b).ea = s.ea := (rfl)
@[simp] theorem State.busRead_cycles (s : State) (b : Word) : (s.busRead b).cycles = s.cycles := (rfl)
@[simp] theorem State.busRead_lastOpcode (s : State) (b : Word) : (s.busRead b).lastOpcode = s.lastOpcode := (rfl)
@[simp] theorem State.busRead_mem (s : State) (b : Word) : (s.busRead b).mem = s.mem := (rfl)
@[simp] theorem State.busRead_answers (s : State) (b : Word) : (s.busRead b).answers = s.answers.drop 1 := (rfl)
@[simp] theorem State.busRead_trace (s : State) (b : Word) : (s.busRead b).trace = s.trace ++ [.read b (s.busByte 0 b)] := (rfl)
@[simp] theorem State.busRead_calls (s : State) (b : Word) : (s.busRead b).calls = s.calls := (rfl)
@[simp] theorem State.busRead_live (s : State) (b : Word) : (s.busRead b).live = s.live := (rfl)
@[simp] theorem State.busRead_sentinels (s : State) (b : Word) : (s.busRead b).sentinels = s.sentinels := (rfl)
@[simp] theorem State.busRead_byteAt (s : State) (b : Word) (addr : Word) : (s.busRead b).byteAt addr = s.byteAt addr := (rfl)

/-! ### busWrite -/

@[simp] theorem State.busWrite_a (s : State) (b : Word) (v : Byte) : (s.busWrite b v).a = s.a := (rfl)
@[simp] theorem State.busWrite_x (s : State) (b : Word) (v : Byte) : (s.busWrite b v).x = s.x := (rfl)
@[simp] theorem State.busWrite_y (s : State) (b : Word) (v : Byte) : (s.busWrite b v).y = s.y := (rfl)
@[simp] theorem State.busWrite_sp (s : State) (b : Word) (v : Byte) : (s.busWrite b v).sp = s.sp := (rfl)
@[simp] theorem State.busWrite_pc (s : State) (b : Word) (v : Byte) : (s.busWrite b v).pc = s.pc := (rfl)
@[simp] theorem State.busWrite_p (s : State) (b : Word) (v : Byte) : (s.busWrite b v).p = s.p := (rfl)
@[simp] theorem State.busWrite_mode (s : State) (b : Word) (v : Byte) : (s.busWrite b v).mode = s.mode := (rfl)
@[simp] theorem State.busWrite_ea (s : State) (b : Word) (v : Byte) : (s.busWrite b v).ea = s.ea := (rfl)
@[simp] theorem State.busWrite_cycles (s : State) (b : Word) (v : Byte) : (s.busWrite b v).cycles = s.cycles := (rfl)
@[simp] theorem State.busWrite_lastOpcode (s : State) (b : Word) (v : Byte) : (s.busWrite b v).lastOpcode = s.lastOpcode := (rfl)
@[simp] theorem State.busWrite_mem (s : State) (b : Word) (v : Byte) : (s.busWrite b v).mem = memWrite s.mem b.toNat v := (rfl)
@[simp] theorem State.busWrite_answers (s : State) (b : Word) (v : Byte) : (s.busWrite b v).answers = s.answers := (rfl)
@[simp] theorem State.busWrite_trace (s : State) (b : Word) (v : Byte) : (s.busWrite b v).trace = s.trace ++ [.write b v] := (rfl)
@[simp] theorem State.busWrite_calls (s : State) (b : Word) (v : Byte) : (s.busWrite b v).calls = s.calls := (rfl)
@[simp] theorem State.busWrite_live (s : State) (b : Word) (v : Byte) : (s.busWrite b v).live = s.live := (rfl)
@[simp] theorem State.busWrite_sentinels (s : State) (b : Word) (v : Byte) : (s.busWrite b v).sentinels = s.sentinels := (rfl)

/-! ### busRead16 -/

@[simp] theorem State.busRead16_a (s : State) (b : Word) : (s.busRead16 b).a = s.a := (rfl)
@[simp] theorem State.busRead16_x (s : State) (b : Word) : (s.busRead16 b).x = s.x := (rfl)
@[simp] theorem State.busRead16_y (s : State) (b : Word) : (s.busRead16 b).y = s.y := (rfl)
@[simp] theorem State.busRead16_sp (s : State) (b : Word) : (s.busRead16 b).sp = s.sp := (rfl)
@[simp] theorem State.busRead16_pc (s : State) (b : Word) : (s.busRead16 b).pc = s.pc := (rfl)
@[simp] theorem State.busRead16_p (s : State) (b : Word) : (s.busRead16 b).p = s.p := (rfl)
@[simp] theorem State.busRead16_mode (s : State) (b : Word) : (s.busRead16 b).mode = s.mode := (rfl)
@[simp] theorem State.busRead16_ea (s : State) (b : Word) : (s.busRead16 b).ea = s.ea := (rfl)
@[simp] theorem State.busRead16_cycles (s : State) (b : Word) : (s.busRead16 b).cycles = s.cycles := (rfl)
@[simp] theorem State.busRead16_lastOpcode (s : State) (b : Word) : (s.busRead16 b).lastOpcode = s.lastOpcode := (rfl)
@[simp] theorem State.busRead16_mem (s : State) (b : Word) : (s.busRead16 b).mem = s.mem := (rfl)
@[simp] theorem State.busRead16_answers (s : State) (b : Word) : (s.busRead16 b).answers = (s.answers.drop 1).drop 1 := (rfl)
@[simp] theorem State.busRead16_trace (s : State) (b : Word) : (s.busRead16 b).trace = s.trace ++ [.read b (s.busByte 0 b)] ++ [.read (b + 1) ((s.busRead b).busByte 0 (b + 1))] := (rfl)
@[simp] theorem State.busRead16_calls (s : State) (b : Word) : (s.busRead16 b).calls = s.calls := (rfl)
@[simp] theorem State.busRead16_live (s : State) (b : Word) : (s.busRead16 b).live = s.live := (rfl)
@[simp] theorem State.busRead16_sentinels (s : State) (b : Word) : (s.busRead16 b).sentinels = s.sentinels := (rfl)
@[simp] theorem State.busRead16_byteAt (s : State) (b : Word) (addr : Word) : (s.busRead16 b).byteAt addr = s.byteAt addr := (rfl)

/-! ### push -/

@[simp] theorem State.push_a (s : State) (v : Byte) : (s.push v).a = s.a := (rfl)
@[simp] theorem State.push_x (s : State) (v : Byte) : (s.push v).x = s.x := (rfl)
@[simp] theorem State.push_y (s : State) (v : Byte) : (s.push v).y = s.y := (rfl)
@[simp] theorem State.push_sp (s : State) (v : Byte) : (s.push v).sp = s.sp - 1 := (rfl)
@[simp] theorem State.push_pc (s : State) (v : Byte) : (s.push v).pc = s.pc := (rfl)
@[simp] theorem State.push_p (s : State) (v : Byte) : (s.push v).p = s.p := (rfl)
@[simp] theorem State.push_mode (s : State) (v : Byte) : (s.push v).mode = s.mode := (rfl)
@[simp] theorem State.push_ea (s : State) (v : Byte) : (s.push v).ea = s.ea := (rfl)
@[simp] theorem State.push_cycles (s : State) (v : Byte) : (s.push v).cycles = s.cycles := (rfl)
@[simp] theorem State.push_lastOpcode (s : State) (v : Byte) : (s.push v).lastOpcode = s.lastOpcode := (rfl)
@[simp] theorem State.push_mem (s : State) (v : Byte) : (s.push v).mem = memWrite s.mem (stackAddr s.sp).toNat v := (rfl)
@[simp] theorem State.push_answers (s : State) (v : Byte) : (s.push v).answers = s.answers := (rfl)
@[simp] theorem State.push_trace (s : State) (v : Byte) : (s.push v).trace = s.trace ++ [.write (stackAddr s.sp) v] := (rfl)
@[simp] theorem State.push_calls (s : State) (v : Byte) : (s.push v).calls = s.calls := (rfl)
@[simp] theorem State.push_live (s : State) (v : Byte) : (s.push v).live = s.live := (rfl)
@[simp] theorem State.push_sentinels (s : State) (v : Byte) : (s.push v).sentinels = s.sentinels := (rfl)

/-! ### pull -/

@[simp] theorem State.pull_a (s : State) : s.pull.a = s.a := (rfl)
@[simp] theorem State.pull_x (s : State) : s.pull.x = s.x := (rfl)
@[simp] theorem State.pull_y (s : State) : s.pull.y = s.y := (rfl)
@[simp] theorem State.pull_sp (s : State) : s.pull.sp = s.sp + 1 := (rfl)
@[simp] theorem State.pull_pc (s : State) : s.pull.pc = s.pc := (rfl)
@[simp] theorem State.pull_p (s : State) : s.pull.p = s.p := (rfl)
@[simp] theorem State.pull_mode (s : State) : s.pull.mode = s.mode := (rfl)
@[simp] theorem State.pull_ea (s : State) : s.pull.ea = s.ea := (rfl)
@[simp] theorem State.pull_cycles (s : State) : s.pull.cycles = s.cycles := (rfl)
@[simp] theorem State.pull_lastOpcode (s : State) : s.pull.lastOpcode = s.lastOpcode := (rfl)
@[simp] theorem State.pull_mem (s : State) : s.pull.mem = s.mem := (rfl)
@[simp] theorem State.pull_answers (s : State) : s.pull.answers = s.answers.drop 1 := (rfl)
@[simp] theorem State.pull_trace (s : State) : s.pull.trace = s.trace ++ [.read (stackAddr (s.sp + 1)) s.pulled] := (rfl)
@[simp] theorem State.pull_calls (s : State) : s.pull.calls = s.calls := (rfl)
@[simp] theorem State.pull_live (s : State) : s.pull.live = s.live := (rfl)
@[simp] theorem State.pull_sentinels (s : State) : s.pull.sentinels = s.sentinels := (rfl)
@[simp] theorem State.pull_byteAt (s : State) (addr : Word) : s.pull.byteAt addr = s.byteAt addr := (rfl)

/-! ### jumpVector -/

@[simp] theorem State.jumpVector_a (s : State) (b : Word) : (s.jumpVector b).a = s.a := (rfl)
@[simp] theorem State.jumpVector_x (s : State) (b : Word) : (s.jumpVector b).x = s.x := (rfl)
@[simp] theorem State.jumpVector_y (s : State) (b : Word) : (s.jumpVector b).y = s.y := (rfl)
@[simp] theorem State.jumpVector_sp (s : State) (b : Word) : (s.jumpVector b).sp = s.sp := (rfl)
@[simp] theorem State.jumpVector_pc (s : State) (b : Word) : (s.jumpVector b).pc = s.wordAt b := (rfl)
@[simp] theorem State.jumpVector_p (s : State) (b : Word) : (s.jumpVector b).p = s.p := (rfl)
@[simp] theorem State.jumpVector_mode (s : State) (b : Word) : (s.jumpVector b).mode = s.mode := (rfl)
@[simp] theorem State.jumpVector_ea (s : State) (b : Word) : (s.jumpVector b).ea = s.ea := (rfl)
@[simp] theorem State.jumpVector_cycles (s : State) (b : Word) : (s.jumpVector b).cycles = s.cycles := (rfl)
@[simp] theorem State.jumpVector_lastOpcode (s : State) (b : Word) : (s.jumpVector b).lastOpcode = s.lastOpcode := (rfl)
@[simp] theorem State.jumpVector_mem (s : State) (b : Word) : (s.jumpVector b).mem = s.mem := (rfl)
@[simp] theorem State.jumpVector_answers (s : State) (b : Word) : (s.jumpVector b).answers = (s.answers.drop 1).drop 1 := (rfl)
@[simp] theorem State.jumpVector_trace (s : State) (b : Word) : (s.jumpVector b).trace = s.trace ++ [.read b (s.busByte 0 b)] ++ [.read (b + 1) ((s.busRead b).busByte 0 (b + 1))] := (rfl)
@[simp] theorem State.jumpVector_calls (s : State) (b : Word) : (s.jumpVector b).calls = s.calls := (rfl)
@[simp] theorem State.jumpVector_live (s : State) (b : Word) : (s.jumpVector b).live = s.live := (rfl)
@[simp] theorem State.jumpVector_sentinels (s : State) (b : Word) : (s.jumpVector b).sentinels = s.sentinels := (rfl)
@[simp] theorem State.jumpVector_byteAt (s : State) (b : Word) (addr : Word) : (s.jumpVector b).byteAt addr = s.byteAt addr := (rfl)

/-! ### fetchOpcode -/

@[simp] theorem fetchOpcode_a (r : Row) (s : State) : (fetchOpcode r s).a = s.a := (rfl)
@[simp] theorem fetchOpcode_x (r : Row) (s : State) : (fetchOpcode r s).x = s.x := (rfl)
@[simp] theorem fetchOpcode_y (r : Row) (s : State) : (fetchOpcode r s).y = s.y := (rfl)
@[simp] theorem fetchOpcode_sp (r : Row) (s : State) : (fetchOpcode r s).sp = s.sp := (rfl)
@[simp] theorem fetchOpcode_pc (r : Row) (s : State) : (fetchOpcode r s).pc = s.pc + 1 := (rfl)
@[simp] theorem fetchOpcode_p (r : Row) (s : State) : (fetchOpcode r s).p = s.p := (rfl)
@[simp] theorem fetchOpcode_mode (r : Row) (s : State) : (fetchOpcode r s).mode = r.mode := (rfl)
@[simp] theorem fetchOpcode_ea (r : Row) (s : State) : (fetchOpcode r s).ea = s.ea := (rfl)
@[simp] theorem fetchOpcode_cycles (r : Row) (s : State) : (fetchOpcode r s).cycles = s.cycles := (rfl)
@[simp] theorem fetchOpcode_lastOpcode (r : Row) (s : State) : (fetchOpcode r s).lastOpcode = r.opcode := (rfl)
@[simp] theorem fetchOpcode_mem (r : Row) (s : State) : (fetchOpcode r s).mem = s.mem := (rfl)
@[simp] theorem fetchOpcode_answers (r : Row) (s : State) : (fetchOpcode r s).answers = s.answers.drop 1 := (rfl)
@[simp] theorem fetchOpcode_trace (r : Row) (s : State) : (fetchOpcode r s).trace = [.read s.pc r.opcode] := (rfl)
@[simp] theorem fetchOpcode_calls (r : Row) (s : State) : (fetchOpcode r s).calls = s.calls := (rfl)
@[simp] theorem fetchOpcode_live (r : Row) (s : State) : (fetchOpcode r s).live = s.live := (rfl)
@[simp] theorem fetchOpcode_sentinels (r : Row) (s : State) : (fetchOpcode r s).sentinels = s.sentinels := (rfl)
@[simp] theorem fetchOpcode_byteAt (r : Row) (s : State) (addr : Word) : (fetchOpcode r s).byteAt addr = s.byteAt addr := (rfl)

/-! ### resolve -/

@[simp] theorem resolve_a (r : Row) (s : State) : (resolve r s).a = s.a := (rfl)
@[simp] theorem resolve_x (r : Row) (s : State) : (resolve r s).x = s.x := (rfl)
@[simp] theorem resolve_y (r : Row) (s : State) : (resolve r s).y = s.y := (rfl)
@[simp] theorem resolve_sp (r : Row) (s : State) : (resolve r s).sp = s.sp := (rfl)
@[simp] theorem resolve_pc (r : Row) (s : State) : (resolve r s).pc = s.pc + BitVec.ofNat 16 r.mode.operandBytes := (rfl)
@[simp] theorem resolve_p (r : Row) (s : State) : (resolve r s).p = s.p := (rfl)
@[simp] theorem resolve_mode (r : Row) (s : State) : (resolve r s).mode = s.mode := (rfl)
@[simp] theorem resolve_ea (r : Row) (s : State) : (resolve r s).ea = effectiveAddress r.mode r.operand s := (rfl)
@[simp] theorem resolve_cycles (r : Row) (s : State) : (resolve r s).cycles = s.cycles + crossBonus r s := (rfl)
@[simp] theorem resolve_lastOpcode (r : Row) (s : State) : (resolve r s).lastOpcode = s.lastOpcode := (rfl)
@[simp] theorem resolve_mem (r : Row) (s : State) : (resolve r s).mem = s.mem := (rfl)
@[simp] theorem resolve_answers (r : Row) (s : State) : (resolve r s).answers = s.answers.drop (resolverReadCount r.mode) := (rfl)
@[simp] theorem resolve_trace (r : Row) (s : State) : (resolve r s).trace = s.trace ++ resolverReads r.mode r.operand s := (rfl)
@[simp] theorem resolve_calls (r : Row) (s : State) : (resolve r s).calls = s.calls := (rfl)
@[simp] theorem resolve_live (r : Row) (s : State) : (resolve r s).live = s.live := (rfl)
@[simp] theorem resolve_sentinels (r : Row) (s : State) : (resolve r s).sentinels = s.sentinels + sentinelDraws r.mode := (rfl)
@[simp] theorem resolve_byteAt (r : Row) (s : State) (addr : Word) : (resolve r s).byteAt addr = s.byteAt addr := (rfl)

/-! ### readOperand -/

@[simp] theorem readOperand_a (o : Operand) (s : State) : (readOperand o s).a = s.a := (rfl)
@[simp] theorem readOperand_x (o : Operand) (s : State) : (readOperand o s).x = s.x := (rfl)
@[simp] theorem readOperand_y (o : Operand) (s : State) : (readOperand o s).y = s.y := (rfl)
@[simp] theorem readOperand_sp (o : Operand) (s : State) : (readOperand o s).sp = s.sp := (rfl)
@[simp] theorem readOperand_pc (o : Operand) (s : State) : (readOperand o s).pc = s.pc := (rfl)
@[simp] theorem readOperand_p (o : Operand) (s : State) : (readOperand o s).p = s.p := (rfl)
@[simp] theorem readOperand_mode (o : Operand) (s : State) : (readOperand o s).mode = s.mode := (rfl)
@[simp] theorem readOperand_ea (o : Operand) (s : State) : (readOperand o s).ea = s.ea := (rfl)
@[simp] theorem readOperand_cycles (o : Operand) (s : State) : (readOperand o s).cycles = s.cycles := (rfl)
@[simp] theorem readOperand_lastOpcode (o : Operand) (s : State) : (readOperand o s).lastOpcode = s.lastOpcode := (rfl)
@[simp] theorem readOperand_mem (o : Operand) (s : State) : (readOperand o s).mem = s.mem := (rfl)
@[simp] theorem readOperand_answers (o : Operand) (s : State) : (readOperand o s).answers = s.answers.drop 1 := (rfl)
@[simp] theorem readOperand_trace (o : Operand) (s : State) : (readOperand o s).trace = s.trace ++ [.read s.ea (operandByte o s)] := (rfl)
@[simp] theorem readOperand_calls (o : Operand) (s : State) : (readOperand o s).calls = s.calls := (rfl)
@[simp] theorem readOperand_live (o : Operand) (s : State) : (readOperand o s).live = s.live := (rfl)
@[simp] theorem readOperand_sentinels (o : Operand) (s : State) : (readOperand o s).sentinels = s.sentinels := (rfl)
@[simp] theorem readOperand_byteAt (o : Operand) (s : State) (addr : Word) : (readOperand o s).byteAt addr = s.byteAt addr := (rfl)

/-! ### The Bus's answers, some reads later -/

/-- After `n` reads, the read `k` further on is the one `n + k` from the start. -/
theorem State.busByte_drop (s t : State) (n : Nat) (ha : t.answers = s.answers.drop n) (hm : t.mem = s.mem) (k : Nat)
    (addr : Word) : t.busByte k addr = s.busByte (n + k) addr := by
  simp only [State.busByte, State.byteAt, ha, hm, List.getElem?_drop]

@[simp] theorem State.noteRead_busByte (s : State) (b : Word) (v : Byte) (k : Nat) (addr : Word) :
    (s.noteRead b v).busByte k addr = s.busByte (1 + k) addr := s.busByte_drop (s.noteRead b v) 1 rfl rfl k addr
@[simp] theorem State.busRead_busByte (s : State) (b : Word) (k : Nat) (addr : Word) :
    (s.busRead b).busByte k addr = s.busByte (1 + k) addr := s.busByte_drop (s.busRead b) 1 rfl rfl k addr
@[simp] theorem State.pull_busByte (s : State) (k : Nat) (addr : Word) :
    s.pull.busByte k addr = s.busByte (1 + k) addr := s.busByte_drop s.pull 1 rfl rfl k addr
@[simp] theorem fetchOpcode_busByte (r : Row) (s : State) (k : Nat) (addr : Word) :
    (fetchOpcode r s).busByte k addr = s.busByte (1 + k) addr := s.busByte_drop (fetchOpcode r s) 1 rfl rfl k addr
@[simp] theorem resolve_busByte (r : Row) (s : State) (k : Nat) (addr : Word) :
    (resolve r s).busByte k addr = s.busByte (resolverReadCount r.mode + k) addr := s.busByte_drop (resolve r s) _ rfl rfl k addr
@[simp] theorem readOperand_busByte (o : Operand) (s : State) (k : Nat) (addr : Word) :
    (readOperand o s).busByte k addr = s.busByte (1 + k) addr := s.busByte_drop (readOperand o s) 1 rfl rfl k addr

/-- Where the host settles nothing, the flat RAM answers. -/
theorem State.busByte_of_nil (s : State) (h : s.answers = []) (k : Nat) (addr : Word) :
    s.busByte k addr = s.byteAt addr := by simp [State.busByte, h]

/-! ### byteAt through memory -/

/-- A read depends on memory alone. -/
theorem State.byteAt_congr (s t : State) (h : s.mem = t.mem) (addr : Word) : s.byteAt addr = t.byteAt addr := by
  simp only [State.byteAt, h]

end Sys2Proof.Machine
end

