-- ==== Sys2Proof/Laws/Ops.lean ====
section
/-! SUPPORT. What each shared operation can do, said once: the stack, taking an exception, returning from it, and the
arithmetic of addresses and flags that the provers cite instead of unfolding. -/

namespace Sys2Proof.Machine

/-! ### Addresses -/

/-- The stack page: `0x0100 + sp`. -/
theorem stackAddr_toNat (sp : Byte) : (stackAddr sp).toNat = 256 + sp.toNat := by
  have h := sp.isLt
  simp only [stackAddr, joinBytes, BitVec.toNat_append]
  rw [Nat.shiftLeft_eq, ← Nat.shiftLeft_eq, ← Nat.shiftLeft_add_eq_or_of_lt h]
  simp [Nat.shiftLeft_eq]

/-- Different stack pointers name different stack bytes. -/
@[simp] theorem stackAddr_inj (p q : Byte) : stackAddr p = stackAddr q ↔ p = q := by
  rw [← BitVec.toNat_inj, stackAddr_toNat, stackAddr_toNat, Nat.add_left_cancel_iff, BitVec.toNat_inj]

/-- A word as its two bytes. -/
theorem joinBytes_toNat (hi lo : Byte) : (joinBytes hi lo).toNat = hi.toNat * 256 + lo.toNat := by
  have h := lo.isLt
  simp only [joinBytes, BitVec.toNat_append]
  rw [← Nat.shiftLeft_add_eq_or_of_lt h, Nat.shiftLeft_eq]

/-- The high and low byte put together are the word. -/
@[simp] theorem joinBytes_hi8_lo8 (w : Word) : joinBytes (hi8 w) (lo8 w) = w := by
  rw [← BitVec.toNat_inj, joinBytes_toNat]
  simp only [hi8, lo8, BitVec.extractLsb'_toNat, Nat.shiftRight_eq_div_pow]
  have h := w.isLt
  omega

/-- The low byte of two bytes put together. -/
@[simp] theorem lo8_joinBytes (hi lo : Byte) : lo8 (joinBytes hi lo) = lo := by
  rw [← BitVec.toNat_inj]
  simp only [lo8, BitVec.extractLsb'_toNat, joinBytes_toNat]
  have h := lo.isLt
  omega

/-- The high byte of two bytes put together. -/
@[simp] theorem hi8_joinBytes (hi lo : Byte) : hi8 (joinBytes hi lo) = hi := by
  rw [← BitVec.toNat_inj]
  simp only [hi8, BitVec.extractLsb'_toNat, joinBytes_toNat, Nat.shiftRight_eq_div_pow]
  have h := lo.isLt
  have h' := hi.isLt
  omega

/-- No stack byte lies at or above 0x0200; the vectors do. -/
theorem stackAddr_ne_of_le (sp : Byte) (w : Word) (h : 512 ≤ w.toNat) : w ≠ stackAddr sp := by
  intro e
  have := congrArg BitVec.toNat e
  rw [stackAddr_toNat] at this
  have := sp.isLt
  omega

/-- A zero-page address is the byte itself. -/
theorem zext16_toNat (z : Byte) : (zext16 z).toNat = z.toNat := by
  have h := z.isLt
  simp only [zext16, BitVec.toNat_setWidth]
  omega

/-! ### Small sums of a byte -/

theorem byte_sub_one_one (x : Byte) : x - 1#8 - 1#8 = x - 2#8 := by revert x; decide
theorem byte_sub_two_one (x : Byte) : x - 2#8 - 1#8 = x - 3#8 := by revert x; decide
theorem byte_add_one_one (x : Byte) : x + 1#8 + 1#8 = x + 2#8 := by revert x; decide
theorem byte_add_two_one (x : Byte) : x + 2#8 + 1#8 = x + 3#8 := by revert x; decide

/-- Adding one, on natural numbers. -/
theorem byte_add_one (v : Byte) : v + 1 = BitVec.ofNat 8 (v.toNat + 1) := by revert v; decide

/-- Subtracting one, on natural numbers. -/
theorem byte_sub_one (v : Byte) : v - 1 = BitVec.ofNat 8 (v.toNat + 255) := by revert v; decide

/-- A difference of bytes, on natural numbers. -/
theorem byte_sub (a b : Byte) : a - b = BitVec.ofNat 8 (a.toNat + 256 - b.toNat) := by
  apply BitVec.eq_of_toNat_eq
  have ha := a.isLt
  have hb := b.isLt
  rw [BitVec.toNat_sub, BitVec.toNat_ofNat]
  omega

/-- The subtrahend's complement, on natural numbers. -/
theorem subOperand_toNat (m : Byte) : (subOperand m).toNat = 255 - m.toNat := by revert m; decide

/-- The subtrahend's complement as a signed number. -/
theorem subOperand_toInt (m : Byte) : (subOperand m).toInt = -m.toInt - 1 := by
  have h := m.isLt
  rw [BitVec.toInt_eq_toNat_cond, BitVec.toInt_eq_toNat_cond, subOperand_toNat]
  split <;> split <;> omega

/-- The adder on a complemented operand subtracts it and the borrow. -/
theorem addResult_subOperand (a m : Byte) (c : Bool) :
    addResult a (subOperand m) c = BitVec.ofInt 8 ((a.toNat : Int) - m.toNat - (1 - c.toNat)) := by
  have hm := m.isLt
  have ha := a.isLt
  have hc : c.toNat ≤ 1 := by cases c <;> simp
  apply BitVec.eq_of_toNat_eq
  rw [addResult, addSum, subOperand_toNat, BitVec.toNat_ofNat, BitVec.toNat_ofInt]
  omega

/-- The adder's carry on a complemented operand says that no borrow occurred. -/
theorem addSum_subOperand (a m : Byte) (c : Bool) :
    addSum a (subOperand m) c > 255 ↔ 0 ≤ (a.toNat : Int) - m.toNat - (1 - c.toNat) := by
  have hm := m.isLt
  have hc : c.toNat ≤ 1 := by cases c <;> simp
  rw [addSum, subOperand_toNat]
  omega

/-- Three pushes write three different bytes. -/
theorem stackAddr_ne (sp : Byte) : stackAddr sp ≠ stackAddr (sp - 1) ∧ stackAddr sp ≠ stackAddr (sp - 2) ∧
    stackAddr (sp - 1) ≠ stackAddr (sp - 2) := by
  simp only [ne_eq, stackAddr_inj]
  revert sp
  decide

/-! ### The byte functions of the shifts, on natural numbers -/

theorem aslFn_eq (c : Bool) (v : Byte) : aslFn c v = (decide (128 ≤ v.toNat), BitVec.ofNat 8 (2 * v.toNat)) := by
  revert c v; decide

theorem lsrFn_eq (c : Bool) (v : Byte) :
    lsrFn c v = (decide (v.toNat % 2 = 1), BitVec.ofNat 8 (v.toNat / 2)) := by
  revert c v; decide

theorem rolFn_eq (c : Bool) (v : Byte) :
    rolFn c v = (decide (128 ≤ v.toNat), BitVec.ofNat 8 (2 * v.toNat + c.toNat)) := by
  revert c v; decide

theorem rorFn_eq (c : Bool) (v : Byte) :
    rorFn c v = (decide (v.toNat % 2 = 1), BitVec.ofNat 8 (v.toNat / 2 + 128 * c.toNat)) := by
  revert c v; decide

/-! ### The flags byte -/

/-- The six flags come back from the byte they are packed into, whatever its bits 5 and 4 are made. -/
theorem unpackP_pushedP (m : Bool) (p : Flags) : unpackP (pushedP m p) = p := by
  obtain ⟨n, v, d, i, z, c⟩ := p
  revert m n v d i z c
  decide

/-- The pushed flags byte with the break marker set. -/
theorem pushedP_true (p : Flags) : pushedP true p = packP p ||| 0x30 := by
  obtain ⟨n, v, d, i, z, c⟩ := p
  revert n v d i z c
  decide

/-! ### Taking an exception -/

/-! What `takeException` leaves in the registers and the scratch state: `SP` three lower, `P.I` set, everything else as
before. -/

@[simp] theorem takeException_a (ret : Word) (m : Bool) (vector : Word) (s : State) :
    (takeException ret m vector s).a = s.a := by
  simp [takeException, State.push16]
@[simp] theorem takeException_x (ret : Word) (m : Bool) (vector : Word) (s : State) :
    (takeException ret m vector s).x = s.x := by
  simp [takeException, State.push16]
@[simp] theorem takeException_y (ret : Word) (m : Bool) (vector : Word) (s : State) :
    (takeException ret m vector s).y = s.y := by
  simp [takeException, State.push16]
@[simp] theorem takeException_sp (ret : Word) (m : Bool) (vector : Word) (s : State) :
    (takeException ret m vector s).sp = s.sp - 3 := by
  simp [takeException, State.push16, byte_sub_one_one, byte_sub_two_one]
@[simp] theorem takeException_p (ret : Word) (m : Bool) (vector : Word) (s : State) :
    (takeException ret m vector s).p = { s.p with i := true } := by
  simp [takeException, State.push16]
@[simp] theorem takeException_mode (ret : Word) (m : Bool) (vector : Word) (s : State) :
    (takeException ret m vector s).mode = s.mode := by
  simp [takeException, State.push16]
@[simp] theorem takeException_ea (ret : Word) (m : Bool) (vector : Word) (s : State) :
    (takeException ret m vector s).ea = s.ea := by
  simp [takeException, State.push16]
@[simp] theorem takeException_cycles (ret : Word) (m : Bool) (vector : Word) (s : State) :
    (takeException ret m vector s).cycles = s.cycles := by
  simp [takeException, State.push16]
@[simp] theorem takeException_lastOpcode (ret : Word) (m : Bool) (vector : Word) (s : State) :
    (takeException ret m vector s).lastOpcode = s.lastOpcode := by
  simp [takeException, State.push16]
@[simp] theorem takeException_live (ret : Word) (m : Bool) (vector : Word) (s : State) :
    (takeException ret m vector s).live = s.live := by
  simp [takeException, State.push16]
@[simp] theorem takeException_calls (ret : Word) (m : Bool) (vector : Word) (s : State) :
    (takeException ret m vector s).calls = s.calls := by
  simp [takeException, State.push16]
@[simp] theorem takeException_answers (ret : Word) (m : Bool) (vector : Word) (s : State) :
    (takeException ret m vector s).answers = s.answers.drop 2 := by
  simp [takeException, State.push16]
@[simp] theorem takeException_sentinels (ret : Word) (m : Bool) (vector : Word) (s : State) :
    (takeException ret m vector s).sentinels = s.sentinels := by
  simp [takeException, State.push16]

/-- What `takeException` leaves to be read: the flags byte, the low byte and the high byte of the return address in the
three bytes it pushed, everything else as before. -/
theorem takeException_byteAt (ret : Word) (m : Bool) (vector : Word) (s : State) (h : Memory.wf s.mem) (addr : Word) :
    (takeException ret m vector s).byteAt addr =
      if addr = stackAddr (s.sp - 2) then pushedP m s.p
      else if addr = stackAddr (s.sp - 1) then lo8 ret
      else if addr = stackAddr s.sp then hi8 ret
      else s.byteAt addr := by
  have h1 := s.push_wf (hi8 ret) h
  have h2 := (s.push (hi8 ret)).push_wf (lo8 ret) h1
  show (((s.push (hi8 ret)).push (lo8 ret)).push (pushedP m s.p)).byteAt addr = _
  rw [State.push_byteAt _ _ h2, State.push_byteAt _ _ h1, State.push_byteAt _ _ h, State.push_sp, State.push_sp,
    show s.sp - 1 - 1 = s.sp - 2 from byte_sub_one_one s.sp]

/-- No byte from 0x0200 on is changed by taking an exception, the vectors among them. -/
theorem takeException_byteAt_of_le (ret : Word) (m : Bool) (vector : Word) (s : State) (h : Memory.wf s.mem) (addr : Word)
    (ha : 512 ≤ addr.toNat) : (takeException ret m vector s).byteAt addr = s.byteAt addr := by
  rw [takeException_byteAt _ _ _ _ h, if_neg (stackAddr_ne_of_le _ _ ha), if_neg (stackAddr_ne_of_le _ _ ha),
    if_neg (stackAddr_ne_of_le _ _ ha)]

/-- What the Bus returns at or above 0x0200 is not changed by the three pushes of an exception. -/
theorem pushed_busByte (ret : Word) (m : Bool) (s : State) (h : Memory.wf s.mem) (k : Nat) (addr : Word)
    (ha : 512 ≤ addr.toNat) : ((s.push16 ret).push (pushedP m s.p)).busByte k addr = s.busByte k addr := by
  have := takeException_byteAt_of_le ret m 0 s h addr ha
  simp only [takeException, State.jumpVector_byteAt, State.setP_byteAt] at this
  simp only [State.busByte]
  rw [show ((s.push16 ret).push (pushedP m s.p)).byteAt addr = s.byteAt addr from this]
  rfl

/-- The accesses of `takeException`, in order. -/
theorem takeException_trace (ret : Word) (m : Bool) (vector : Word) (s : State) (h : Memory.wf s.mem)
    (hv : 512 ≤ vector.toNat) (hv' : 512 ≤ (vector + 1).toNat) :
    (takeException ret m vector s).trace = s.trace ++ [.write (stackAddr s.sp) (hi8 ret),
      .write (stackAddr (s.sp - 1)) (lo8 ret), .write (stackAddr (s.sp - 2)) (pushedP m s.p),
      .read vector (s.busByte 0 vector), .read (vector + 1) (s.busByte 1 (vector + 1))] := by
  rw [← pushed_busByte ret m s h 0 vector hv, ← pushed_busByte ret m s h 1 _ hv']
  simp [takeException, State.push16, byte_sub_one_one]

/-- Where an exception goes: the word the Bus returns at the vector. -/
theorem takeException_pc_of_le (ret : Word) (m : Bool) (vector : Word) (s : State) (h : Memory.wf s.mem)
    (hv : 512 ≤ vector.toNat) (hv' : 512 ≤ (vector + 1).toNat) :
    (takeException ret m vector s).pc = joinBytes (s.busByte 1 (vector + 1)) (s.busByte 0 vector) := by
  rw [← pushed_busByte ret m s h 0 vector hv, ← pushed_busByte ret m s h 1 _ hv']
  rfl

/-- Taking an exception keeps memory in canonical form. -/
theorem takeException_wf (ret : Word) (m : Bool) (vector : Word) (s : State) (h : Memory.wf s.mem) :
    Memory.wf (takeException ret m vector s).mem :=
  State.push_wf _ _ (State.push_wf _ _ (State.push_wf _ _ h))

/-! ### Returning from an exception -/

/-! What `returnFromException` leaves in the registers; memory and the scratch state stay. -/

@[simp] theorem returnFromException_a (s : State) : (returnFromException s).a = s.a := by
  simp [returnFromException, State.pull16]
@[simp] theorem returnFromException_x (s : State) : (returnFromException s).x = s.x := by
  simp [returnFromException, State.pull16]
@[simp] theorem returnFromException_y (s : State) : (returnFromException s).y = s.y := by
  simp [returnFromException, State.pull16]
@[simp] theorem returnFromException_sp (s : State) : (returnFromException s).sp = s.sp + 3 := by
  simp [returnFromException, State.pull16, byte_add_one_one, byte_add_two_one]
@[simp] theorem returnFromException_p (s : State) : (returnFromException s).p = unpackP (s.busByte 0 (stackAddr (s.sp + 1))) := by
  simp [returnFromException, State.pull16, State.pulled]
@[simp] theorem returnFromException_mode (s : State) : (returnFromException s).mode = s.mode := by
  simp [returnFromException, State.pull16]
@[simp] theorem returnFromException_ea (s : State) : (returnFromException s).ea = s.ea := by
  simp [returnFromException, State.pull16]
@[simp] theorem returnFromException_cycles (s : State) : (returnFromException s).cycles = s.cycles := by
  simp [returnFromException, State.pull16]
@[simp] theorem returnFromException_lastOpcode (s : State) : (returnFromException s).lastOpcode = s.lastOpcode := by
  simp [returnFromException, State.pull16]
@[simp] theorem returnFromException_live (s : State) : (returnFromException s).live = s.live := by
  simp [returnFromException, State.pull16]
@[simp] theorem returnFromException_calls (s : State) : (returnFromException s).calls = s.calls := by
  simp [returnFromException, State.pull16]
@[simp] theorem returnFromException_answers (s : State) : (returnFromException s).answers = s.answers.drop 3 := by
  simp [returnFromException, State.pull16]
@[simp] theorem returnFromException_sentinels (s : State) : (returnFromException s).sentinels = s.sentinels := by
  simp [returnFromException, State.pull16]
@[simp] theorem returnFromException_mem (s : State) : (returnFromException s).mem = s.mem := by
  simp [returnFromException, State.pull16]
@[simp] theorem returnFromException_byteAt (s : State) (addr : Word) :
    (returnFromException s).byteAt addr = s.byteAt addr := by
  simp [returnFromException, State.pull16]

/-- Where `returnFromException` continues: the word above the flags byte. -/
theorem returnFromException_pc (s : State) :
    (returnFromException s).pc =
      joinBytes (s.busByte 2 (stackAddr (s.sp + 3))) (s.busByte 1 (stackAddr (s.sp + 2))) := by
  simp [returnFromException, State.pulled16, State.pulled, byte_add_one_one, byte_add_two_one]

/-- The reads of `returnFromException`: the flags byte, the low byte, the high byte. -/
theorem returnFromException_trace (s : State) :
    (returnFromException s).trace = s.trace ++ [.read (stackAddr (s.sp + 1)) (s.busByte 0 (stackAddr (s.sp + 1))),
      .read (stackAddr (s.sp + 2)) (s.busByte 1 (stackAddr (s.sp + 2))),
      .read (stackAddr (s.sp + 3)) (s.busByte 2 (stackAddr (s.sp + 3)))] := by
  simp [returnFromException, State.pull16, State.pulled, byte_add_one_one, byte_add_two_one]

end Sys2Proof.Machine
end

