-- ==== Sys2Proof/Laws/Step.lean ====
section
/-! SUPPORT. What one instruction and one step can do: `perform` said once in terms of its handler, and the cases of a
step. -/

namespace Sys2Proof.Machine

/-- The state in which the handler of `i` runs. -/
def resolved (i : Instr) (s : State) : State := resolve i.row (fetchOpcode i.row s)

/-- `perform` is its handler on the resolved state, and then the base cost. -/
theorem perform_eq (i : Instr) (h : Handler) (s : State) :
    perform i h s = .next ((h i.row.operand (resolved i s)).addCycles i.row.base) := rfl

/-! ### What the fetch and the resolver leave -/

@[simp] theorem resolved_a (i : Instr) (s : State) : (resolved i s).a = s.a := (rfl)
@[simp] theorem resolved_x (i : Instr) (s : State) : (resolved i s).x = s.x := (rfl)
@[simp] theorem resolved_y (i : Instr) (s : State) : (resolved i s).y = s.y := (rfl)
@[simp] theorem resolved_sp (i : Instr) (s : State) : (resolved i s).sp = s.sp := (rfl)
@[simp] theorem resolved_p (i : Instr) (s : State) : (resolved i s).p = s.p := (rfl)
@[simp] theorem resolved_mem (i : Instr) (s : State) : (resolved i s).mem = s.mem := (rfl)
@[simp] theorem resolved_ea (i : Instr) (s : State) : (resolved i s).ea = eaOf i s := (rfl)
@[simp] theorem resolved_mode (i : Instr) (s : State) : (resolved i s).mode = i.row.mode := (rfl)
@[simp] theorem resolved_lastOpcode (i : Instr) (s : State) : (resolved i s).lastOpcode = i.row.opcode := (rfl)
@[simp] theorem resolved_trace (i : Instr) (s : State) : (resolved i s).trace = fetchReads i s := (rfl)
@[simp] theorem resolved_answers (i : Instr) (s : State) :
    (resolved i s).answers = s.answers.drop (1 + resolverReadCount i.row.mode) :=
  List.drop_drop
@[simp] theorem resolved_live (i : Instr) (s : State) : (resolved i s).live = s.live := (rfl)
@[simp] theorem resolved_calls (i : Instr) (s : State) : (resolved i s).calls = s.calls := (rfl)
@[simp] theorem resolved_cycles (i : Instr) (s : State) : (resolved i s).cycles = s.cycles + crossBonus i.row (fetchOpcode i.row s) := (rfl)
@[simp] theorem resolved_sentinels (i : Instr) (s : State) : (resolved i s).sentinels = s.sentinels + sentinelDraws i.row.mode := (rfl)
@[simp] theorem resolved_byteAt (i : Instr) (s : State) (addr : Word) :
    (resolved i s).byteAt addr = s.byteAt addr := (rfl)

/-- The Bus returns to a handler's reads what the answers behind the fetch and the resolver settle. -/
@[simp] theorem resolved_busByte (i : Instr) (s : State) (k : Nat) (addr : Word) :
    (resolved i s).busByte k addr = s.busByte (1 + resolverReadCount i.row.mode + k) addr :=
  s.busByte_drop (resolved i s) _ (resolved_answers i s) rfl k addr

/-- `PC` in the state the handler runs in is the address of the next instruction. -/
@[simp] theorem resolved_pc (i : Instr) (s : State) : (resolved i s).pc = nextPC i s := by
  show s.pc + 1 + BitVec.ofNat 16 i.row.mode.operandBytes = s.pc + BitVec.ofNat 16 (1 + i.row.mode.operandBytes)
  rw [BitVec.ofNat_add, BitVec.add_assoc]
  rfl

/-- The byte a handler reads first is the instruction's operand. -/
@[simp] theorem operandByte_resolved (i : Instr) (s : State) :
    operandByte i.row.operand (resolved i s) = operandOf i s := by
  simp only [operandByte, operandOf, resolved_busByte, resolved_mode, resolved_ea, Nat.add_zero]

/-! ### The cases of a step -/

/-- The cases of a step: the host's next call, `step()` when there is none. -/
theorem step_cases (s t : State) (h : step s = .next t) :
    (s.calls = [] ∧ hostCall .step s = .next t) ∨
      ∃ c cs, s.calls = c :: cs ∧ hostCall c { s with calls := cs } = .next t := by
  unfold step nextCall at h
  split at h
  · exact .inl ⟨‹_›, h⟩
  · exact .inr ⟨_, _, ‹_›, h⟩

/-- The cases of a host call that completes. -/
theorem hostCall_cases (c : HostCall) (s t : State) (h : hostCall c s = .next t) :
    (c = .step ∧ s.live = true ∧ exec (fetchInstr s) s = .next t) ∨
      (c = .irq ∧ s.live = true ∧ t = triggerIRQ s) ∨ (c = .nmi ∧ s.live = true ∧ t = triggerNMI s) ∨
      (c = .reset ∧ t = resetCall s) ∨ (c = .init ∧ t = initializeCall s) ∨
      (∃ a v, c = .busSet a v ∧ t = busSetCall a v s) ∨ ∃ l, c = .busAnswers l ∧ t = busAnswersCall l s := by
  cases c <;> simp only [hostCall, whenLive] at h
  case step => split at h <;> [exact .inl ⟨rfl, ‹_›, h⟩; cases h]
  case irq => split at h <;> cases h; exact .inr (.inl ⟨rfl, ‹_›, rfl⟩)
  case nmi => split at h <;> cases h; exact .inr (.inr (.inl ⟨rfl, ‹_›, rfl⟩))
  case reset => cases h; exact .inr (.inr (.inr (.inl ⟨rfl, rfl⟩)))
  case init => cases h; exact .inr (.inr (.inr (.inr (.inl ⟨rfl, rfl⟩))))
  case busSet a v => cases h; exact .inr (.inr (.inr (.inr (.inr (.inl ⟨a, v, rfl, rfl⟩)))))
  case busAnswers l => cases h; exact .inr (.inr (.inr (.inr (.inr (.inr ⟨l, rfl, rfl⟩)))))

/-- The reset state is what `reset()` leaves over the reset state's own empty memory. -/
theorem resetCall_reset : resetCall State.reset = State.reset := rfl

end Sys2Proof.Machine
end

