-- ==== Sys2Proof/Laws/Effects.lean ====
section
/-! SUPPORT. The parts of an instruction statement: how `Straight`, `Booked` and `MemAfter` follow from what the
handler does to the state its resolver left. -/

namespace Sys2Proof.Machine

/-- Reads are counted part by part. -/
@[simp] theorem readCount_append (l l' : List Access) : readCount (l ++ l') = readCount l + readCount l' := by
  induction l with
  | nil => simp [readCount]
  | cons x rest ih => cases x <;> simp only [List.cons_append, readCount, ih, Nat.add_right_comm]

@[simp] theorem readCount_nil : readCount [] = 0 := rfl
@[simp] theorem readCount_read (a : Word) (v : Byte) (l : List Access) :
    readCount (.read a v :: l) = readCount l + 1 := rfl
@[simp] theorem readCount_write (a : Word) (v : Byte) (l : List Access) :
    readCount (.write a v :: l) = readCount l := rfl

/-- The fetch reads the opcode, and the resolver as much as its mode says (R117). -/
@[simp] theorem readCount_fetchReads (i : Instr) (s : State) :
    readCount (fetchReads i s) = 1 + resolverReadCount i.row.mode := by
  unfold fetchReads resolverReads
  cases i.row.mode <;> rfl

/-- A handler that leaves the bookkeeping fields alone books its instruction. -/
theorem booked_of (i : Instr) (h : Handler) (s : State)
    (hlast : (h i.row.operand (resolved i s)).lastOpcode = i.row.opcode)
    (hmode : (h i.row.operand (resolved i s)).mode = i.row.mode)
    (hea : (h i.row.operand (resolved i s)).ea = eaOf i s)
    (hlive : (h i.row.operand (resolved i s)).live = s.live)
    (hcalls : (h i.row.operand (resolved i s)).calls = s.calls)
    (hsent : (h i.row.operand (resolved i s)).sentinels = s.sentinels + sentinelDraws i.row.mode)
    (hans : (h i.row.operand (resolved i s)).answers = s.answers.drop (readCount (h i.row.operand (resolved i s)).trace)) :
    Booked i s ((h i.row.operand (resolved i s)).addCycles i.row.base) :=
  ⟨hlast, hmode, hea, hlive, hcalls, hsent, hans⟩

/-- A handler that leaves the bookkeeping fields, `PC` and the counter alone and makes the accesses `accesses` runs
straight. -/
theorem straight_of (i : Instr) (h : Handler) (accesses : List Access) (s : State)
    (hlast : (h i.row.operand (resolved i s)).lastOpcode = i.row.opcode)
    (hmode : (h i.row.operand (resolved i s)).mode = i.row.mode)
    (hea : (h i.row.operand (resolved i s)).ea = eaOf i s)
    (hlive : (h i.row.operand (resolved i s)).live = s.live)
    (hcalls : (h i.row.operand (resolved i s)).calls = s.calls)
    (hsent : (h i.row.operand (resolved i s)).sentinels = s.sentinels + sentinelDraws i.row.mode)
    (hpc : (h i.row.operand (resolved i s)).pc = nextPC i s)
    (hcycles : (h i.row.operand (resolved i s)).cycles = s.cycles + crossBonus i.row (fetchOpcode i.row s))
    (htrace : (h i.row.operand (resolved i s)).trace = fetchReads i s ++ accesses)
    (hans : (h i.row.operand (resolved i s)).answers =
      s.answers.drop (1 + resolverReadCount i.row.mode + readCount accesses)) :
    Straight i accesses s ((h i.row.operand (resolved i s)).addCycles i.row.base) where
  toBooked := booked_of i h s hlast hmode hea hlive hcalls hsent (by
    rw [hans, htrace, readCount_append, readCount_fetchReads])
  pc := hpc
  cycles := by simp only [State.addCycles_cycles, hcycles, costOf]; omega
  trace := htrace

/-- Looking an address up in a list of one written byte. -/
theorem lookup_one (a b : Word) (v d : Byte) :
    (([(b, v)] : List (Word × Byte)).lookup a).getD d = if a = b then v else d := by
  by_cases e : a = b
  · simp [List.lookup, e]
  · simp [List.lookup, e, show (a == b) = false by simpa using e]

/-- Looking an address up behind a written byte. -/
theorem lookup_cons (a b : Word) (v d : Byte) (l : List (Word × Byte)) :
    (((b, v) :: l).lookup a).getD d = if a = b then v else (l.lookup a).getD d := by
  by_cases e : a = b
  · simp [List.lookup, e]
  · simp [List.lookup, e, show (a == b) = false by simpa using e]

/-- One byte written. -/
theorem memAfter_one (s t : State) (b : Word) (v : Byte) (h : Memory.wf s.mem)
    (ht : t.mem = memWrite s.mem b.toNat v) : MemAfter [(b, v)] s t := by
  intro a
  rw [State.byteAt_congr t (s.busWrite b v) ht, State.busWrite_byteAt _ _ _ h, lookup_one]

/-- Two different bytes written. -/
theorem memAfter_two (s t : State) (b b' : Word) (v v' : Byte) (h : Memory.wf s.mem)
    (ht : t.mem = memWrite (memWrite s.mem b.toNat v) b'.toNat v') (hne : b ≠ b') :
    MemAfter [(b, v), (b', v')] s t := by
  intro a
  rw [State.byteAt_congr t ((s.busWrite b v).busWrite b' v') ht,
    State.busWrite_byteAt _ _ _ (State.busWrite_wf _ _ _ h), State.busWrite_byteAt _ _ _ h, lookup_cons, lookup_one]
  by_cases e : a = b
  · subst e; simp only [if_pos, if_neg hne]
  · rw [if_neg e, if_neg e]

/-- What taking an exception writes: the return address and the flags byte. -/
theorem takeException_memAfter (ret : Word) (vector : Word) (s : State) (h : Memory.wf s.mem) :
    MemAfter [(stackAddr s.sp, hi8 ret), (stackAddr (s.sp - 1), lo8 ret), (stackAddr (s.sp - 2), packP s.p ||| 0x30)]
      s (takeException ret true vector s) := by
  intro a
  obtain ⟨h1, h2, h3⟩ := stackAddr_ne s.sp
  rw [takeException_byteAt _ _ _ _ h, pushedP_true, lookup_cons, lookup_cons, lookup_one]
  by_cases e : a = stackAddr s.sp
  · subst e; simp only [if_pos, if_neg h2, if_neg h1]
  · by_cases e' : a = stackAddr (s.sp - 1)
    · subst e'; simp only [if_neg h3, if_neg e]
    · simp only [if_neg e, if_neg e']

/-! ### The shared operations of the families -/

/-- A branch not taken does nothing. -/
@[simp] theorem branch_false (s : State) : branch false s = s := rfl

/-- A branch taken goes to `EA` and adds its cycles. -/
@[simp] theorem branch_true (s : State) : branch true s = (s.addCycles (takenCycles s)).setPC s.ea := rfl

/-- A shift in Accumulator mode. -/
theorem handleShift_acc (f : ShiftFn) (o : Operand) (s : State) (h : s.mode = .acc) :
    handleShift f o s = (s.setA (f s.p.c s.a).2).setP (shiftFlags (f s.p.c s.a) s.p) := if_pos h

/-- A shift in every other mode: one read and one write of `EA`. -/
theorem handleShift_mem (f : ShiftFn) (o : Operand) (s : State) (h : s.mode ≠ .acc) :
    handleShift f o s = ((s.busRead s.ea).busWrite s.ea (f s.p.c (s.busByte 0 s.ea)).2).setP
      (shiftFlags (f s.p.c (s.busByte 0 s.ea)) s.p) := if_neg h

/-- What INC and DEC do to memory. -/
theorem modifyMem_eq (f : Byte → Byte) (s : State) :
    modifyMem f s = ((s.busRead s.ea).busWrite s.ea (f (s.busByte 0 s.ea))).setP (setNZ (f (s.busByte 0 s.ea)) s.p) := rfl

/-- Outside Immediate mode a handler's operand is what the Bus returns at `EA`. -/
theorem operandByte_mem (o : Operand) (s : State) (h : s.mode ≠ .imm) : operandByte o s = s.busByte 0 s.ea := if_neg h

/-! ### What no handler touches -/

/-- What every handler leaves alone. -/
structure Untouched (s t : State) : Prop where
  mode : t.mode = s.mode
  ea : t.ea = s.ea
  lastOpcode : t.lastOpcode = s.lastOpcode
  live : t.live = s.live
  calls : t.calls = s.calls
  sentinels : t.sentinels = s.sentinels

theorem Untouched.trans {s t u : State} (h : Untouched s t) (h' : Untouched t u) : Untouched s u :=
  ⟨h'.mode.trans h.mode, h'.ea.trans h.ea, h'.lastOpcode.trans h.lastOpcode, h'.live.trans h.live,
    h'.calls.trans h.calls, h'.sentinels.trans h.sentinels⟩

theorem branch_untouched (cond : Bool) (s : State) : Untouched s (branch cond s) := by
  cases cond <;> constructor <;> simp [branch]

theorem handleShift_untouched (f : ShiftFn) (o : Operand) (s : State) : Untouched s (handleShift f o s) := by
  unfold handleShift
  split <;> constructor <;> simp [shiftA, shiftMem]

theorem modifyMem_untouched (f : Byte → Byte) (s : State) : Untouched s (modifyMem f s) := by
  constructor <;> simp [modifyMem]

theorem setANZ_untouched (v : Byte) (s : State) : Untouched s (setANZ v s) := by
  constructor <;> simp [setANZ]

theorem addWithCarry_untouched (v : Byte) (s : State) : Untouched s (addWithCarry v s) := by
  constructor <;> simp [addWithCarry]

theorem readOperand_untouched (o : Operand) (s : State) : Untouched s (readOperand o s) := by
  constructor <;> simp

theorem setP_untouched (p : Flags) (s : State) : Untouched s (s.setP p) := by
  constructor <;> simp

/-- No handler touches the bookkeeping fields. -/
theorem IsHandler.untouched {h : Handler} (hh : IsHandler h) (o : Operand) (s : State) : Untouched s (h o s) := by
  cases hh
  case brk => constructor <;> simp [handleBrk]
  case rti => constructor <;> simp [handleRti]
  case bpl | bmi | bvc | bvs | bcc | bcs | bne | beq => exact branch_untouched _ s
  case asl | lsr | rol | ror => exact handleShift_untouched _ o s
  case inc | dec => exact modifyMem_untouched _ s
  case and | ora | eor => exact (readOperand_untouched o s).trans (setANZ_untouched _ _)
  case adc | sbc => exact (readOperand_untouched o s).trans (addWithCarry_untouched _ _)
  case cmp | cpx | cpy | bit => exact (readOperand_untouched o s).trans (setP_untouched _ _)
  case slo | rla | sre =>
    exact (handleShift_untouched _ o s).trans ((readOperand_untouched o _).trans (setANZ_untouched _ _))
  case rra => exact (handleShift_untouched _ o s).trans ((readOperand_untouched o _).trans (addWithCarry_untouched _ _))
  case dcp => exact (modifyMem_untouched _ s).trans ((readOperand_untouched o _).trans (setP_untouched _ _))
  case isc => exact (modifyMem_untouched _ s).trans ((readOperand_untouched o _).trans (addWithCarry_untouched _ _))
  all_goals
    constructor <;> simp [handleNothing, handlePhp, handleClc, handleJsr, handlePlp, handleSec, handlePha, handleJmp, handleCli, handleRts, handlePla, handleSei, handleSta, handleSax, handleSty, handleStx, handleDey, handleTxa, handleTya, handleTxs, handleLdy, handleLda, handleLdx, handleLax, handleTay, handleTax, handleClv, handleTsx, handleIny, handleDex, handleCld, handleInx, handleSed, State.push16, State.pull16]

/-! ### The Bus accesses of a handler -/

/-- `t` comes from `s` by the Bus accesses `l`, one answer used for each read. -/
def Counted (s t : State) : Prop := ∃ l, t.trace = s.trace ++ l ∧ t.answers = s.answers.drop (readCount l)

theorem Counted.trans {s t u : State} : Counted s t → Counted t u → Counted s u := by
  rintro ⟨l, ht, ha⟩ ⟨l', ht', ha'⟩
  exact ⟨l ++ l', by rw [ht', ht, List.append_assoc], by rw [ha', ha, List.drop_drop, readCount_append]⟩

/-- An update of the registers makes no access. -/
theorem Counted.of_eq {s t : State} (ht : t.trace = s.trace) (ha : t.answers = s.answers) : Counted s t :=
  ⟨[], by simp [ht], by simp [ha]⟩

theorem noteRead_counted (s : State) (a : Word) (v : Byte) : Counted s (s.noteRead a v) := ⟨_, rfl, rfl⟩
theorem busRead_counted (s : State) (a : Word) : Counted s (s.busRead a) := noteRead_counted s a _
theorem busWrite_counted (s : State) (a : Word) (v : Byte) : Counted s (s.busWrite a v) := ⟨_, rfl, rfl⟩
theorem readOperand_counted (o : Operand) (s : State) : Counted s (readOperand o s) := noteRead_counted s _ _
theorem push_counted (s : State) (v : Byte) : Counted s (s.push v) :=
  (busWrite_counted s _ v).trans (.of_eq rfl rfl)
theorem pull_counted (s : State) : Counted s s.pull := noteRead_counted _ _ _

theorem setP_counted (s : State) (p : Flags) : Counted s (s.setP p) := .of_eq rfl rfl
theorem setPC_counted (s : State) (w : Word) : Counted s (s.setPC w) := .of_eq rfl rfl
theorem setANZ_counted (v : Byte) (s : State) : Counted s (setANZ v s) := .of_eq rfl rfl
theorem addWithCarry_counted (v : Byte) (s : State) : Counted s (addWithCarry v s) := .of_eq rfl rfl
theorem push16_counted (s : State) (w : Word) : Counted s (s.push16 w) := (push_counted s _).trans (push_counted _ _)
theorem pull16_counted (s : State) : Counted s s.pull16 := (pull_counted s).trans (pull_counted _)
theorem jumpVector_counted (s : State) (vector : Word) : Counted s (s.jumpVector vector) :=
  ((busRead_counted s _).trans (busRead_counted _ _)).trans (setPC_counted _ _)

theorem takeException_counted (ret : Word) (m : Bool) (vector : Word) (s : State) :
    Counted s (takeException ret m vector s) :=
  (push16_counted s ret).trans ((push_counted _ _).trans ((setP_counted _ _).trans (jumpVector_counted _ _)))

theorem returnFromException_counted (s : State) : Counted s (returnFromException s) :=
  (pull_counted s).trans ((setP_counted _ _).trans ((pull16_counted _).trans (setPC_counted _ _)))

theorem handleShift_counted (f : ShiftFn) (o : Operand) (s : State) : Counted s (handleShift f o s) := by
  unfold handleShift
  split
  · exact .of_eq rfl rfl
  · exact (busRead_counted s _).trans ((busWrite_counted _ _ _).trans (.of_eq rfl rfl))

theorem modifyMem_counted (f : Byte → Byte) (s : State) : Counted s (modifyMem f s) :=
  (busRead_counted s _).trans ((busWrite_counted _ _ _).trans (.of_eq rfl rfl))

theorem branch_counted (cond : Bool) (s : State) : Counted s (branch cond s) := by
  cases cond <;> exact .of_eq rfl rfl

/-- Every handler uses one answer for each of its reads. -/
theorem IsHandler.counted {h : Handler} (hh : IsHandler h) (o : Operand) (s : State) : Counted s (h o s) := by
  cases hh
  case brk => exact takeException_counted _ _ _ s
  case rti => exact returnFromException_counted s
  case bpl | bmi | bvc | bvs | bcc | bcs | bne | beq => exact branch_counted _ s
  case asl | lsr | rol | ror => exact handleShift_counted _ o s
  case inc | dec => exact modifyMem_counted _ s
  case slo | rla | sre =>
    exact (handleShift_counted _ o s).trans ((readOperand_counted o _).trans (setANZ_counted _ _))
  case rra => exact (handleShift_counted _ o s).trans ((readOperand_counted o _).trans (addWithCarry_counted _ _))
  case dcp => exact (modifyMem_counted _ s).trans ((readOperand_counted o _).trans (setP_counted _ _))
  case isc => exact (modifyMem_counted _ s).trans ((readOperand_counted o _).trans (addWithCarry_counted _ _))
  case and | ora | eor => exact (readOperand_counted o s).trans (setANZ_counted _ _)
  case adc | sbc => exact (readOperand_counted o s).trans (addWithCarry_counted _ _)
  case lda | ldx | ldy | lax | cmp | cpx | cpy | bit => exact (readOperand_counted o s).trans (.of_eq rfl rfl)
  case sta | stx | sty | sax => exact busWrite_counted s _ _
  case pha | php => exact push_counted s _
  case pla | plp => exact (pull_counted s).trans (.of_eq rfl rfl)
  case jsr => exact (push16_counted s _).trans (setPC_counted _ _)
  case rts => exact (pull16_counted s).trans (setPC_counted _ _)
  all_goals exact .of_eq rfl rfl

/-- Every instruction uses one of the host's answers for each Bus read it makes. -/
theorem exec_answers (i : Instr) (s t : State) (h : exec i s = .next t) :
    t.answers = s.answers.drop (readCount t.trace) := by
  obtain ⟨H, hh, he⟩ := exec_perform i
  rw [he, perform_eq] at h
  cases h
  obtain ⟨l, ht, ha⟩ := hh.counted i.row.operand (resolved i s)
  rw [State.addCycles_answers, State.addCycles_trace, ha, ht, resolved_answers, resolved_trace, List.drop_drop,
    readCount_append, readCount_fetchReads]

/-- What every instruction leaves in the bookkeeping state. -/
theorem exec_booked (i : Instr) (s t : State) (h : exec i s = .next t) : Booked i s t := by
  have ha := exec_answers i s t h
  obtain ⟨H, hh, he⟩ := exec_perform i
  rw [he, perform_eq] at h
  cases h
  obtain ⟨hm, hea, hl, hv, hc, hs⟩ := hh.untouched i.row.operand (resolved i s)
  exact ⟨hl, hm, hea, hv, hc, hs, ha⟩

end Sys2Proof.Machine
end

