-- ==== Sys2Proof/Laws/Bus.lean ====
section
/-! SUPPORT. The Bus as read oracle and write sink (20_memory.md R52): what each shared operation, and each handler
outside Immediate mode, asks of the Bus is a run of `busRun`. -/

namespace Sys2Proof.Machine

/-- `t` comes from `s` by accesses that the Bus of `s` answers as the trace says. -/
def Replays (s t : State) : Prop := ∃ l, t.trace = s.trace ++ l ∧ busRun s.mem s.answers l = some (t.mem, t.answers)

/-- Accesses are performed part by part. -/
theorem busRun_append (l l' : List Access) (m m' : Memory) (a a' : List BusAnswer) (h : busRun m a l = some (m', a')) :
    busRun m a (l ++ l') = busRun m' a' l' := by
  induction l generalizing m a with
  | nil => cases h; rfl
  | cons x rest ih =>
    cases x with
    | read b v =>
      simp only [busRun, List.cons_append] at h ⊢
      split at h
      · rw [if_pos ‹_›]; exact ih _ _ h
      · cases h
    | write b v => exact ih _ _ h

theorem Replays.trans {s t u : State} : Replays s t → Replays t u → Replays s u := by
  rintro ⟨l, ht, ha⟩ ⟨l', ht', ha'⟩
  exact ⟨l ++ l', by rw [ht', ht, List.append_assoc], by rw [busRun_append _ _ _ _ _ _ ha, ha']⟩

/-- An update of the registers makes no access. -/
theorem Replays.of_eq {s t : State} (ht : t.trace = s.trace) (ha : t.answers = s.answers) (hm : t.mem = s.mem) :
    Replays s t := ⟨[], by simp [ht], by simp [ha, hm, busRun]⟩

/-- A read notes what the Bus returns. -/
theorem noteRead_replays (s : State) (a : Word) (v : Byte) (h : v = s.busByte 0 a) : Replays s (s.noteRead a v) :=
  ⟨[.read a v], rfl, if_pos h⟩

theorem busRead_replays (s : State) (a : Word) : Replays s (s.busRead a) := noteRead_replays s a _ rfl
theorem busWrite_replays (s : State) (a : Word) (v : Byte) : Replays s (s.busWrite a v) := ⟨[.write a v], rfl, rfl⟩
theorem setP_replays (s : State) (p : Flags) : Replays s (s.setP p) := .of_eq rfl rfl rfl
theorem setPC_replays (s : State) (w : Word) : Replays s (s.setPC w) := .of_eq rfl rfl rfl
theorem addCycles_replays (s : State) (n : Nat) : Replays s (s.addCycles n) := .of_eq rfl rfl rfl
theorem setANZ_replays (v : Byte) (s : State) : Replays s (setANZ v s) := .of_eq rfl rfl rfl
theorem addWithCarry_replays (v : Byte) (s : State) : Replays s (addWithCarry v s) := .of_eq rfl rfl rfl
theorem push_replays (s : State) (v : Byte) : Replays s (s.push v) := (busWrite_replays s _ v).trans (.of_eq rfl rfl rfl)
theorem push16_replays (s : State) (w : Word) : Replays s (s.push16 w) := (push_replays s _).trans (push_replays _ _)

theorem pull_replays (s : State) : Replays s s.pull :=
  (Replays.of_eq (t := s.setSP (s.sp + 1)) rfl rfl rfl).trans (busRead_replays _ _)

theorem pull16_replays (s : State) : Replays s s.pull16 := (pull_replays s).trans (pull_replays _)

theorem jumpVector_replays (s : State) (vector : Word) : Replays s (s.jumpVector vector) :=
  ((busRead_replays s _).trans (busRead_replays _ _)).trans (setPC_replays _ _)

theorem takeException_replays (ret : Word) (m : Bool) (vector : Word) (s : State) :
    Replays s (takeException ret m vector s) :=
  (push16_replays s ret).trans ((push_replays _ _).trans ((setP_replays _ _).trans (jumpVector_replays _ _)))

theorem returnFromException_replays (s : State) : Replays s (returnFromException s) :=
  (pull_replays s).trans ((setP_replays _ _).trans ((pull16_replays _).trans (setPC_replays _ _)))

/-- An operand read, where the operand is what the Bus returns at `EA`. -/
theorem readOperand_replays (o : Operand) (s : State) (h : operandByte o s = s.busByte 0 s.ea) :
    Replays s (readOperand o s) := noteRead_replays s _ _ h

theorem handleShift_replays (f : ShiftFn) (o : Operand) (s : State) : Replays s (handleShift f o s) := by
  unfold handleShift
  split
  · exact .of_eq rfl rfl rfl
  · exact (busRead_replays s _).trans ((busWrite_replays _ _ _).trans (.of_eq rfl rfl rfl))

theorem modifyMem_replays (f : Byte → Byte) (s : State) : Replays s (modifyMem f s) :=
  (busRead_replays s _).trans ((busWrite_replays _ _ _).trans (.of_eq rfl rfl rfl))

theorem branch_replays (cond : Bool) (s : State) : Replays s (branch cond s) := by
  cases cond <;> exact .of_eq rfl rfl rfl

/-- Every handler outside Immediate mode asks the Bus for what it reads. -/
theorem IsHandler.replays {h : Handler} (hh : IsHandler h) (o : Operand) (s : State) (hm : s.mode ≠ .imm) :
    Replays s (h o s) := by
  have op : ∀ u : State, u.mode ≠ .imm → Replays u (readOperand o u) := fun u hu => readOperand_replays o u (if_neg hu)
  have m1 : ∀ f, (handleShift f o s).mode ≠ .imm := fun f => by rw [(handleShift_untouched f o s).mode]; exact hm
  have m2 : ∀ f, (modifyMem f s).mode ≠ .imm := fun f => by rw [(modifyMem_untouched f s).mode]; exact hm
  cases hh
  case brk => exact takeException_replays _ _ _ s
  case rti => exact returnFromException_replays s
  case bpl | bmi | bvc | bvs | bcc | bcs | bne | beq => exact branch_replays _ s
  case asl | lsr | rol | ror => exact handleShift_replays _ o s
  case inc | dec => exact modifyMem_replays _ s
  case slo | rla | sre => exact (handleShift_replays _ o s).trans ((op _ (m1 _)).trans (setANZ_replays _ _))
  case rra => exact (handleShift_replays _ o s).trans ((op _ (m1 _)).trans (addWithCarry_replays _ _))
  case dcp => exact (modifyMem_replays _ s).trans ((op _ (m2 _)).trans (setP_replays _ _))
  case isc => exact (modifyMem_replays _ s).trans ((op _ (m2 _)).trans (addWithCarry_replays _ _))
  case and | ora | eor => exact (op s hm).trans (setANZ_replays _ _)
  case adc | sbc => exact (op s hm).trans (addWithCarry_replays _ _)
  case lda | ldx | ldy | lax | cmp | cpx | cpy | bit => exact (op s hm).trans (.of_eq rfl rfl rfl)
  case sta | stx | sty | sax => exact busWrite_replays s _ _
  case pha | php => exact push_replays s _
  case pla | plp => exact (pull_replays s).trans (.of_eq rfl rfl rfl)
  case jsr => exact (push16_replays s _).trans (setPC_replays _ _)
  case rts => exact (pull16_replays s).trans (setPC_replays _ _)
  all_goals exact .of_eq rfl rfl rfl

end Sys2Proof.Machine
end

