-- ==== Sys2Proof/Laws/PerInstr.lean ====
section
/-! SUPPORT. Statements per instruction. Family `RowFits`: every instruction's dispatch row is well-formed and its
length is the one its operand bytes give (30_encoding.md R81, R82). -/

namespace Sys2Proof.Laws.RowFits

/-- The row of `i` passes every check of WellFormed.lean, and `i` is as long as its encoding. -/
def Statement (i : Instr) : Prop := i.wellFormed = true ∧ (encode i).length = i.length

theorem oraIzx (b : Byte) : Statement (.oraIzx b) := ⟨rfl, rfl⟩
theorem sloIzx (b : Byte) : Statement (.sloIzx b) := ⟨rfl, rfl⟩
theorem nopZp04 (b : Byte) : Statement (.nopZp04 b) := ⟨rfl, rfl⟩
theorem oraZp (b : Byte) : Statement (.oraZp b) := ⟨rfl, rfl⟩
theorem aslZp (b : Byte) : Statement (.aslZp b) := ⟨rfl, rfl⟩
theorem sloZp (b : Byte) : Statement (.sloZp b) := ⟨rfl, rfl⟩
theorem oraImm (b : Byte) : Statement (.oraImm b) := ⟨rfl, rfl⟩
theorem ancImm0B (b : Byte) : Statement (.ancImm0B b) := ⟨rfl, rfl⟩
theorem nopAbs0C (w : Word) : Statement (.nopAbs0C w) := ⟨rfl, rfl⟩
theorem oraAbs (w : Word) : Statement (.oraAbs w) := ⟨rfl, rfl⟩
theorem aslAbs (w : Word) : Statement (.aslAbs w) := ⟨rfl, rfl⟩
theorem sloAbs (w : Word) : Statement (.sloAbs w) := ⟨rfl, rfl⟩
theorem bpl (b : Byte) : Statement (.bpl b) := ⟨rfl, rfl⟩
theorem oraIzy (b : Byte) : Statement (.oraIzy b) := ⟨rfl, rfl⟩
theorem sloIzy (b : Byte) : Statement (.sloIzy b) := ⟨rfl, rfl⟩
theorem nopZpx14 (b : Byte) : Statement (.nopZpx14 b) := ⟨rfl, rfl⟩
theorem oraZpx (b : Byte) : Statement (.oraZpx b) := ⟨rfl, rfl⟩
theorem aslZpx (b : Byte) : Statement (.aslZpx b) := ⟨rfl, rfl⟩
theorem sloZpx (b : Byte) : Statement (.sloZpx b) := ⟨rfl, rfl⟩
theorem oraAby (w : Word) : Statement (.oraAby w) := ⟨rfl, rfl⟩
theorem sloAby (w : Word) : Statement (.sloAby w) := ⟨rfl, rfl⟩
theorem nopAbx1C (w : Word) : Statement (.nopAbx1C w) := ⟨rfl, rfl⟩
theorem oraAbx (w : Word) : Statement (.oraAbx w) := ⟨rfl, rfl⟩
theorem aslAbx (w : Word) : Statement (.aslAbx w) := ⟨rfl, rfl⟩
theorem sloAbx (w : Word) : Statement (.sloAbx w) := ⟨rfl, rfl⟩
theorem jsrAbs (w : Word) : Statement (.jsrAbs w) := ⟨rfl, rfl⟩
theorem andIzx (b : Byte) : Statement (.andIzx b) := ⟨rfl, rfl⟩
theorem rlaIzx (b : Byte) : Statement (.rlaIzx b) := ⟨rfl, rfl⟩
theorem bitZp (b : Byte) : Statement (.bitZp b) := ⟨rfl, rfl⟩
theorem andZp (b : Byte) : Statement (.andZp b) := ⟨rfl, rfl⟩
theorem rolZp (b : Byte) : Statement (.rolZp b) := ⟨rfl, rfl⟩
theorem rlaZp (b : Byte) : Statement (.rlaZp b) := ⟨rfl, rfl⟩
theorem andImm (b : Byte) : Statement (.andImm b) := ⟨rfl, rfl⟩
theorem ancImm2B (b : Byte) : Statement (.ancImm2B b) := ⟨rfl, rfl⟩
theorem bitAbs (w : Word) : Statement (.bitAbs w) := ⟨rfl, rfl⟩
theorem andAbs (w : Word) : Statement (.andAbs w) := ⟨rfl, rfl⟩
theorem rolAbs (w : Word) : Statement (.rolAbs w) := ⟨rfl, rfl⟩
theorem rlaAbs (w : Word) : Statement (.rlaAbs w) := ⟨rfl, rfl⟩
theorem bmi (b : Byte) : Statement (.bmi b) := ⟨rfl, rfl⟩
theorem andIzy (b : Byte) : Statement (.andIzy b) := ⟨rfl, rfl⟩
theorem rlaIzy (b : Byte) : Statement (.rlaIzy b) := ⟨rfl, rfl⟩
theorem nopZpx34 (b : Byte) : Statement (.nopZpx34 b) := ⟨rfl, rfl⟩
theorem andZpx (b : Byte) : Statement (.andZpx b) := ⟨rfl, rfl⟩
theorem rolZpx (b : Byte) : Statement (.rolZpx b) := ⟨rfl, rfl⟩
theorem rlaZpx (b : Byte) : Statement (.rlaZpx b) := ⟨rfl, rfl⟩
theorem andAby (w : Word) : Statement (.andAby w) := ⟨rfl, rfl⟩
theorem rlaAby (w : Word) : Statement (.rlaAby w) := ⟨rfl, rfl⟩
theorem nopAbx3C (w : Word) : Statement (.nopAbx3C w) := ⟨rfl, rfl⟩
theorem andAbx (w : Word) : Statement (.andAbx w) := ⟨rfl, rfl⟩
theorem rolAbx (w : Word) : Statement (.rolAbx w) := ⟨rfl, rfl⟩
theorem rlaAbx (w : Word) : Statement (.rlaAbx w) := ⟨rfl, rfl⟩
theorem eorIzx (b : Byte) : Statement (.eorIzx b) := ⟨rfl, rfl⟩
theorem sreIzx (b : Byte) : Statement (.sreIzx b) := ⟨rfl, rfl⟩
theorem nopZp44 (b : Byte) : Statement (.nopZp44 b) := ⟨rfl, rfl⟩
theorem eorZp (b : Byte) : Statement (.eorZp b) := ⟨rfl, rfl⟩
theorem lsrZp (b : Byte) : Statement (.lsrZp b) := ⟨rfl, rfl⟩
theorem sreZp (b : Byte) : Statement (.sreZp b) := ⟨rfl, rfl⟩
theorem eorImm (b : Byte) : Statement (.eorImm b) := ⟨rfl, rfl⟩
theorem alrImm (b : Byte) : Statement (.alrImm b) := ⟨rfl, rfl⟩
theorem jmpAbs (w : Word) : Statement (.jmpAbs w) := ⟨rfl, rfl⟩
theorem eorAbs (w : Word) : Statement (.eorAbs w) := ⟨rfl, rfl⟩
theorem lsrAbs (w : Word) : Statement (.lsrAbs w) := ⟨rfl, rfl⟩
theorem sreAbs (w : Word) : Statement (.sreAbs w) := ⟨rfl, rfl⟩
theorem bvc (b : Byte) : Statement (.bvc b) := ⟨rfl, rfl⟩
theorem eorIzy (b : Byte) : Statement (.eorIzy b) := ⟨rfl, rfl⟩
theorem sreIzy (b : Byte) : Statement (.sreIzy b) := ⟨rfl, rfl⟩
theorem nopZpx54 (b : Byte) : Statement (.nopZpx54 b) := ⟨rfl, rfl⟩
theorem eorZpx (b : Byte) : Statement (.eorZpx b) := ⟨rfl, rfl⟩
theorem lsrZpx (b : Byte) : Statement (.lsrZpx b) := ⟨rfl, rfl⟩
theorem sreZpx (b : Byte) : Statement (.sreZpx b) := ⟨rfl, rfl⟩
theorem eorAby (w : Word) : Statement (.eorAby w) := ⟨rfl, rfl⟩
theorem sreAby (w : Word) : Statement (.sreAby w) := ⟨rfl, rfl⟩
theorem nopAbx5C (w : Word) : Statement (.nopAbx5C w) := ⟨rfl, rfl⟩
theorem eorAbx (w : Word) : Statement (.eorAbx w) := ⟨rfl, rfl⟩
theorem lsrAbx (w : Word) : Statement (.lsrAbx w) := ⟨rfl, rfl⟩
theorem sreAbx (w : Word) : Statement (.sreAbx w) := ⟨rfl, rfl⟩
theorem adcIzx (b : Byte) : Statement (.adcIzx b) := ⟨rfl, rfl⟩
theorem rraIzx (b : Byte) : Statement (.rraIzx b) := ⟨rfl, rfl⟩
theorem nopZp64 (b : Byte) : Statement (.nopZp64 b) := ⟨rfl, rfl⟩
theorem adcZp (b : Byte) : Statement (.adcZp b) := ⟨rfl, rfl⟩
theorem rorZp (b : Byte) : Statement (.rorZp b) := ⟨rfl, rfl⟩
theorem rraZp (b : Byte) : Statement (.rraZp b) := ⟨rfl, rfl⟩
theorem adcImm (b : Byte) : Statement (.adcImm b) := ⟨rfl, rfl⟩
theorem arrImm (b : Byte) : Statement (.arrImm b) := ⟨rfl, rfl⟩
theorem jmpInd (w : Word) : Statement (.jmpInd w) := ⟨rfl, rfl⟩
theorem adcAbs (w : Word) : Statement (.adcAbs w) := ⟨rfl, rfl⟩
theorem rorAbs (w : Word) : Statement (.rorAbs w) := ⟨rfl, rfl⟩
theorem rraAbs (w : Word) : Statement (.rraAbs w) := ⟨rfl, rfl⟩
theorem bvs (b : Byte) : Statement (.bvs b) := ⟨rfl, rfl⟩
theorem adcIzy (b : Byte) : Statement (.adcIzy b) := ⟨rfl, rfl⟩
theorem rraIzy (b : Byte) : Statement (.rraIzy b) := ⟨rfl, rfl⟩
theorem nopZpx74 (b : Byte) : Statement (.nopZpx74 b) := ⟨rfl, rfl⟩
theorem adcZpx (b : Byte) : Statement (.adcZpx b) := ⟨rfl, rfl⟩
theorem rorZpx (b : Byte) : Statement (.rorZpx b) := ⟨rfl, rfl⟩
theorem rraZpx (b : Byte) : Statement (.rraZpx b) := ⟨rfl, rfl⟩
theorem adcAby (w : Word) : Statement (.adcAby w) := ⟨rfl, rfl⟩
theorem rraAby (w : Word) : Statement (.rraAby w) := ⟨rfl, rfl⟩
theorem nopAbx7C (w : Word) : Statement (.nopAbx7C w) := ⟨rfl, rfl⟩
theorem adcAbx (w : Word) : Statement (.adcAbx w) := ⟨rfl, rfl⟩
theorem rorAbx (w : Word) : Statement (.rorAbx w) := ⟨rfl, rfl⟩
theorem rraAbx (w : Word) : Statement (.rraAbx w) := ⟨rfl, rfl⟩
theorem nopImm80 (b : Byte) : Statement (.nopImm80 b) := ⟨rfl, rfl⟩
theorem staIzx (b : Byte) : Statement (.staIzx b) := ⟨rfl, rfl⟩
theorem nopImm82 (b : Byte) : Statement (.nopImm82 b) := ⟨rfl, rfl⟩
theorem saxIzx (b : Byte) : Statement (.saxIzx b) := ⟨rfl, rfl⟩
theorem styZp (b : Byte) : Statement (.styZp b) := ⟨rfl, rfl⟩
theorem staZp (b : Byte) : Statement (.staZp b) := ⟨rfl, rfl⟩
theorem stxZp (b : Byte) : Statement (.stxZp b) := ⟨rfl, rfl⟩
theorem saxZp (b : Byte) : Statement (.saxZp b) := ⟨rfl, rfl⟩
theorem nopImm89 (b : Byte) : Statement (.nopImm89 b) := ⟨rfl, rfl⟩
theorem xaaImm (b : Byte) : Statement (.xaaImm b) := ⟨rfl, rfl⟩
theorem styAbs (w : Word) : Statement (.styAbs w) := ⟨rfl, rfl⟩
theorem staAbs (w : Word) : Statement (.staAbs w) := ⟨rfl, rfl⟩
theorem stxAbs (w : Word) : Statement (.stxAbs w) := ⟨rfl, rfl⟩
theorem saxAbs (w : Word) : Statement (.saxAbs w) := ⟨rfl, rfl⟩
theorem bcc (b : Byte) : Statement (.bcc b) := ⟨rfl, rfl⟩
theorem staIzy (b : Byte) : Statement (.staIzy b) := ⟨rfl, rfl⟩
theorem ahxIzy (b : Byte) : Statement (.ahxIzy b) := ⟨rfl, rfl⟩
theorem styZpx (b : Byte) : Statement (.styZpx b) := ⟨rfl, rfl⟩
theorem staZpx (b : Byte) : Statement (.staZpx b) := ⟨rfl, rfl⟩
theorem stxZpy (b : Byte) : Statement (.stxZpy b) := ⟨rfl, rfl⟩
theorem saxZpy (b : Byte) : Statement (.saxZpy b) := ⟨rfl, rfl⟩
theorem staAby (w : Word) : Statement (.staAby w) := ⟨rfl, rfl⟩
theorem tasAby (w : Word) : Statement (.tasAby w) := ⟨rfl, rfl⟩
theorem shyAbx (w : Word) : Statement (.shyAbx w) := ⟨rfl, rfl⟩
theorem staAbx (w : Word) : Statement (.staAbx w) := ⟨rfl, rfl⟩
theorem shxAby (w : Word) : Statement (.shxAby w) := ⟨rfl, rfl⟩
theorem ahxAby (w : Word) : Statement (.ahxAby w) := ⟨rfl, rfl⟩
theorem ldyImm (b : Byte) : Statement (.ldyImm b) := ⟨rfl, rfl⟩
theorem ldaIzx (b : Byte) : Statement (.ldaIzx b) := ⟨rfl, rfl⟩
theorem ldxImm (b : Byte) : Statement (.ldxImm b) := ⟨rfl, rfl⟩
theorem laxIzx (b : Byte) : Statement (.laxIzx b) := ⟨rfl, rfl⟩
theorem ldyZp (b : Byte) : Statement (.ldyZp b) := ⟨rfl, rfl⟩
theorem ldaZp (b : Byte) : Statement (.ldaZp b) := ⟨rfl, rfl⟩
theorem ldxZp (b : Byte) : Statement (.ldxZp b) := ⟨rfl, rfl⟩
theorem laxZp (b : Byte) : Statement (.laxZp b) := ⟨rfl, rfl⟩
theorem ldaImm (b : Byte) : Statement (.ldaImm b) := ⟨rfl, rfl⟩
theorem laxImm (b : Byte) : Statement (.laxImm b) := ⟨rfl, rfl⟩
theorem ldyAbs (w : Word) : Statement (.ldyAbs w) := ⟨rfl, rfl⟩
theorem ldaAbs (w : Word) : Statement (.ldaAbs w) := ⟨rfl, rfl⟩
theorem ldxAbs (w : Word) : Statement (.ldxAbs w) := ⟨rfl, rfl⟩
theorem laxAbs (w : Word) : Statement (.laxAbs w) := ⟨rfl, rfl⟩
theorem bcs (b : Byte) : Statement (.bcs b) := ⟨rfl, rfl⟩
theorem ldaIzy (b : Byte) : Statement (.ldaIzy b) := ⟨rfl, rfl⟩
theorem laxIzy (b : Byte) : Statement (.laxIzy b) := ⟨rfl, rfl⟩
theorem ldyZpx (b : Byte) : Statement (.ldyZpx b) := ⟨rfl, rfl⟩
theorem ldaZpx (b : Byte) : Statement (.ldaZpx b) := ⟨rfl, rfl⟩
theorem ldxZpy (b : Byte) : Statement (.ldxZpy b) := ⟨rfl, rfl⟩
theorem laxZpy (b : Byte) : Statement (.laxZpy b) := ⟨rfl, rfl⟩
theorem ldaAby (w : Word) : Statement (.ldaAby w) := ⟨rfl, rfl⟩
theorem lasAby (w : Word) : Statement (.lasAby w) := ⟨rfl, rfl⟩
theorem ldyAbx (w : Word) : Statement (.ldyAbx w) := ⟨rfl, rfl⟩
theorem ldaAbx (w : Word) : Statement (.ldaAbx w) := ⟨rfl, rfl⟩
theorem ldxAby (w : Word) : Statement (.ldxAby w) := ⟨rfl, rfl⟩
theorem laxAby (w : Word) : Statement (.laxAby w) := ⟨rfl, rfl⟩
theorem cpyImm (b : Byte) : Statement (.cpyImm b) := ⟨rfl, rfl⟩
theorem cmpIzx (b : Byte) : Statement (.cmpIzx b) := ⟨rfl, rfl⟩
theorem nopImmC2 (b : Byte) : Statement (.nopImmC2 b) := ⟨rfl, rfl⟩
theorem dcpIzx (b : Byte) : Statement (.dcpIzx b) := ⟨rfl, rfl⟩
theorem cpyZp (b : Byte) : Statement (.cpyZp b) := ⟨rfl, rfl⟩
theorem cmpZp (b : Byte) : Statement (.cmpZp b) := ⟨rfl, rfl⟩
theorem decZp (b : Byte) : Statement (.decZp b) := ⟨rfl, rfl⟩
theorem dcpZp (b : Byte) : Statement (.dcpZp b) := ⟨rfl, rfl⟩
theorem cmpImm (b : Byte) : Statement (.cmpImm b) := ⟨rfl, rfl⟩
theorem axsImm (b : Byte) : Statement (.axsImm b) := ⟨rfl, rfl⟩
theorem cpyAbs (w : Word) : Statement (.cpyAbs w) := ⟨rfl, rfl⟩
theorem cmpAbs (w : Word) : Statement (.cmpAbs w) := ⟨rfl, rfl⟩
theorem decAbs (w : Word) : Statement (.decAbs w) := ⟨rfl, rfl⟩
theorem dcpAbs (w : Word) : Statement (.dcpAbs w) := ⟨rfl, rfl⟩
theorem bne (b : Byte) : Statement (.bne b) := ⟨rfl, rfl⟩
theorem cmpIzy (b : Byte) : Statement (.cmpIzy b) := ⟨rfl, rfl⟩
theorem dcpIzy (b : Byte) : Statement (.dcpIzy b) := ⟨rfl, rfl⟩
theorem nopZpxD4 (b : Byte) : Statement (.nopZpxD4 b) := ⟨rfl, rfl⟩
theorem cmpZpx (b : Byte) : Statement (.cmpZpx b) := ⟨rfl, rfl⟩
theorem decZpx (b : Byte) : Statement (.decZpx b) := ⟨rfl, rfl⟩
theorem dcpZpx (b : Byte) : Statement (.dcpZpx b) := ⟨rfl, rfl⟩
theorem cmpAby (w : Word) : Statement (.cmpAby w) := ⟨rfl, rfl⟩
theorem dcpAby (w : Word) : Statement (.dcpAby w) := ⟨rfl, rfl⟩
theorem nopAbxDC (w : Word) : Statement (.nopAbxDC w) := ⟨rfl, rfl⟩
theorem cmpAbx (w : Word) : Statement (.cmpAbx w) := ⟨rfl, rfl⟩
theorem decAbx (w : Word) : Statement (.decAbx w) := ⟨rfl, rfl⟩
theorem dcpAbx (w : Word) : Statement (.dcpAbx w) := ⟨rfl, rfl⟩
theorem cpxImm (b : Byte) : Statement (.cpxImm b) := ⟨rfl, rfl⟩
theorem sbcIzx (b : Byte) : Statement (.sbcIzx b) := ⟨rfl, rfl⟩
theorem nopImmE2 (b : Byte) : Statement (.nopImmE2 b) := ⟨rfl, rfl⟩
theorem iscIzx (b : Byte) : Statement (.iscIzx b) := ⟨rfl, rfl⟩
theorem cpxZp (b : Byte) : Statement (.cpxZp b) := ⟨rfl, rfl⟩
theorem sbcZp (b : Byte) : Statement (.sbcZp b) := ⟨rfl, rfl⟩
theorem incZp (b : Byte) : Statement (.incZp b) := ⟨rfl, rfl⟩
theorem iscZp (b : Byte) : Statement (.iscZp b) := ⟨rfl, rfl⟩
theorem sbcImm (b : Byte) : Statement (.sbcImm b) := ⟨rfl, rfl⟩
theorem sbcImmEB (b : Byte) : Statement (.sbcImmEB b) := ⟨rfl, rfl⟩
theorem cpxAbs (w : Word) : Statement (.cpxAbs w) := ⟨rfl, rfl⟩
theorem sbcAbs (w : Word) : Statement (.sbcAbs w) := ⟨rfl, rfl⟩
theorem incAbs (w : Word) : Statement (.incAbs w) := ⟨rfl, rfl⟩
theorem iscAbs (w : Word) : Statement (.iscAbs w) := ⟨rfl, rfl⟩
theorem beq (b : Byte) : Statement (.beq b) := ⟨rfl, rfl⟩
theorem sbcIzy (b : Byte) : Statement (.sbcIzy b) := ⟨rfl, rfl⟩
theorem iscIzy (b : Byte) : Statement (.iscIzy b) := ⟨rfl, rfl⟩
theorem nopZpxF4 (b : Byte) : Statement (.nopZpxF4 b) := ⟨rfl, rfl⟩
theorem sbcZpx (b : Byte) : Statement (.sbcZpx b) := ⟨rfl, rfl⟩
theorem incZpx (b : Byte) : Statement (.incZpx b) := ⟨rfl, rfl⟩
theorem iscZpx (b : Byte) : Statement (.iscZpx b) := ⟨rfl, rfl⟩
theorem sbcAby (w : Word) : Statement (.sbcAby w) := ⟨rfl, rfl⟩
theorem iscAby (w : Word) : Statement (.iscAby w) := ⟨rfl, rfl⟩
theorem nopAbxFC (w : Word) : Statement (.nopAbxFC w) := ⟨rfl, rfl⟩
theorem sbcAbx (w : Word) : Statement (.sbcAbx w) := ⟨rfl, rfl⟩
theorem incAbx (w : Word) : Statement (.incAbx w) := ⟨rfl, rfl⟩
theorem iscAbx (w : Word) : Statement (.iscAbx w) := ⟨rfl, rfl⟩
theorem brk : Statement .brk := ⟨rfl, rfl⟩
theorem kil02 : Statement .kil02 := ⟨rfl, rfl⟩
theorem php : Statement .php := ⟨rfl, rfl⟩
theorem aslAcc : Statement .aslAcc := ⟨rfl, rfl⟩
theorem kil12 : Statement .kil12 := ⟨rfl, rfl⟩
theorem clc : Statement .clc := ⟨rfl, rfl⟩
theorem nopImp1A : Statement .nopImp1A := ⟨rfl, rfl⟩
theorem kil22 : Statement .kil22 := ⟨rfl, rfl⟩
theorem plp : Statement .plp := ⟨rfl, rfl⟩
theorem rolAcc : Statement .rolAcc := ⟨rfl, rfl⟩
theorem kil32 : Statement .kil32 := ⟨rfl, rfl⟩
theorem sec : Statement .sec := ⟨rfl, rfl⟩
theorem nopImp3A : Statement .nopImp3A := ⟨rfl, rfl⟩
theorem rti : Statement .rti := ⟨rfl, rfl⟩
theorem kil42 : Statement .kil42 := ⟨rfl, rfl⟩
theorem pha : Statement .pha := ⟨rfl, rfl⟩
theorem lsrAcc : Statement .lsrAcc := ⟨rfl, rfl⟩
theorem kil52 : Statement .kil52 := ⟨rfl, rfl⟩
theorem cli : Statement .cli := ⟨rfl, rfl⟩
theorem nopImp5A : Statement .nopImp5A := ⟨rfl, rfl⟩
theorem rts : Statement .rts := ⟨rfl, rfl⟩
theorem kil62 : Statement .kil62 := ⟨rfl, rfl⟩
theorem pla : Statement .pla := ⟨rfl, rfl⟩
theorem rorAcc : Statement .rorAcc := ⟨rfl, rfl⟩
theorem kil72 : Statement .kil72 := ⟨rfl, rfl⟩
theorem sei : Statement .sei := ⟨rfl, rfl⟩
theorem nopImp7A : Statement .nopImp7A := ⟨rfl, rfl⟩
theorem dey : Statement .dey := ⟨rfl, rfl⟩
theorem txa : Statement .txa := ⟨rfl, rfl⟩
theorem kil92 : Statement .kil92 := ⟨rfl, rfl⟩
theorem tya : Statement .tya := ⟨rfl, rfl⟩
theorem txs : Statement .txs := ⟨rfl, rfl⟩
theorem tay : Statement .tay := ⟨rfl, rfl⟩
theorem tax : Statement .tax := ⟨rfl, rfl⟩
theorem kilB2 : Statement .kilB2 := ⟨rfl, rfl⟩
theorem clv : Statement .clv := ⟨rfl, rfl⟩
theorem tsx : Statement .tsx := ⟨rfl, rfl⟩
theorem iny : Statement .iny := ⟨rfl, rfl⟩
theorem dex : Statement .dex := ⟨rfl, rfl⟩
theorem kilD2 : Statement .kilD2 := ⟨rfl, rfl⟩
theorem cld : Statement .cld := ⟨rfl, rfl⟩
theorem nopImpDA : Statement .nopImpDA := ⟨rfl, rfl⟩
theorem inx : Statement .inx := ⟨rfl, rfl⟩
theorem nop : Statement .nop := ⟨rfl, rfl⟩
theorem kilF2 : Statement .kilF2 := ⟨rfl, rfl⟩
theorem sed : Statement .sed := ⟨rfl, rfl⟩
theorem nopImpFA : Statement .nopImpFA := ⟨rfl, rfl⟩

end Sys2Proof.Laws.RowFits
end

