-- ==== Sys2Proof/Tests/Slice0.lean ====
section
/-! SUPPORT. Tests of the model. Expected results come from spec/: the words from the dispatch table (30_encoding.md R86)
and the syntax table (R89), the runs from 95_test_vectors.md. After them, a witness for the hypotheses of each
statement of Certificates/Slice0/Obligations.lean. -/

namespace Sys2Proof.Tests

open Sys2Proof.Machine

/-! ### WellFormed: an ill-formed row for each check -/

/-- An absolute row with one operand byte (R81). -/
theorem test_wellFormed_operand : (Row.mk 0xAD .abs 4 false (.byte 0x34)).wellFormed = false ∧
    (Row.mk 0xAD .abs 4 false (.byte 0x34)).operandFits = false := by decide

/-- Base costs 1 and 9 (40_step_and_addressing.md R101: between 2 and 8). -/
theorem test_wellFormed_base : (Row.mk 0xEA .imp 1 false .none).wellFormed = false ∧
    (Row.mk 0xEA .imp 9 false .none).baseInRange = false ∧ (Row.mk 0xEA .imp 2 false .none).baseInRange = true ∧
    (Row.mk 0x1F .abx 8 false (.word 0)).wellFormed = true := by decide

/-- A page-cross flag in Zero Page mode (R102: only AbsoluteX, AbsoluteY and IndirectY have the bonus). -/
theorem test_wellFormed_cross : (Row.mk 0xA5 .zp 3 true (.byte 0x10)).wellFormed = false ∧
    (Row.mk 0xA5 .zp 3 true (.byte 0x10)).crossAllowed = false := by decide

/-- A real row passes. -/
theorem test_wellFormed_good : (Instr.ldaAbx 0x1234).wellFormed = true := by decide

/-! ### Decoding: every opcode's word (R86); operand bytes 0x34 0x12 are the word 0x1234 (R53) -/

/-- The sixteen opcodes 0x00 to 0x0F. -/
theorem test_decode_00_to_0F :
    decodeBytes [0x00] = .ok (.brk, []) ∧
    decodeBytes [0x01, 0x34] = .ok (.oraIzx 0x34, []) ∧
    decodeBytes [0x02] = .ok (.kil02, []) ∧
    decodeBytes [0x03, 0x34] = .ok (.sloIzx 0x34, []) ∧
    decodeBytes [0x04, 0x34] = .ok (.nopZp04 0x34, []) ∧
    decodeBytes [0x05, 0x34] = .ok (.oraZp 0x34, []) ∧
    decodeBytes [0x06, 0x34] = .ok (.aslZp 0x34, []) ∧
    decodeBytes [0x07, 0x34] = .ok (.sloZp 0x34, []) ∧
    decodeBytes [0x08] = .ok (.php, []) ∧
    decodeBytes [0x09, 0x34] = .ok (.oraImm 0x34, []) ∧
    decodeBytes [0x0A] = .ok (.aslAcc, []) ∧
    decodeBytes [0x0B, 0x34] = .ok (.ancImm0B 0x34, []) ∧
    decodeBytes [0x0C, 0x34, 0x12] = .ok (.nopAbs0C 0x1234, []) ∧
    decodeBytes [0x0D, 0x34, 0x12] = .ok (.oraAbs 0x1234, []) ∧
    decodeBytes [0x0E, 0x34, 0x12] = .ok (.aslAbs 0x1234, []) ∧
    decodeBytes [0x0F, 0x34, 0x12] = .ok (.sloAbs 0x1234, []) := by
  refine ⟨?_, ?_, ?_, ?_, ?_, ?_, ?_, ?_, ?_, ?_, ?_, ?_, ?_, ?_, ?_, ?_⟩ <;> rfl

/-- The sixteen opcodes 0x10 to 0x1F. -/
theorem test_decode_10_to_1F :
    decodeBytes [0x10, 0x34] = .ok (.bpl 0x34, []) ∧
    decodeBytes [0x11, 0x34] = .ok (.oraIzy 0x34, []) ∧
    decodeBytes [0x12] = .ok (.kil12, []) ∧
    decodeBytes [0x13, 0x34] = .ok (.sloIzy 0x34, []) ∧
    decodeBytes [0x14, 0x34] = .ok (.nopZpx14 0x34, []) ∧
    decodeBytes [0x15, 0x34] = .ok (.oraZpx 0x34, []) ∧
    decodeBytes [0x16, 0x34] = .ok (.aslZpx 0x34, []) ∧
    decodeBytes [0x17, 0x34] = .ok (.sloZpx 0x34, []) ∧
    decodeBytes [0x18] = .ok (.clc, []) ∧
    decodeBytes [0x19, 0x34, 0x12] = .ok (.oraAby 0x1234, []) ∧
    decodeBytes [0x1A] = .ok (.nopImp1A, []) ∧
    decodeBytes [0x1B, 0x34, 0x12] = .ok (.sloAby 0x1234, []) ∧
    decodeBytes [0x1C, 0x34, 0x12] = .ok (.nopAbx1C 0x1234, []) ∧
    decodeBytes [0x1D, 0x34, 0x12] = .ok (.oraAbx 0x1234, []) ∧
    decodeBytes [0x1E, 0x34, 0x12] = .ok (.aslAbx 0x1234, []) ∧
    decodeBytes [0x1F, 0x34, 0x12] = .ok (.sloAbx 0x1234, []) := by
  refine ⟨?_, ?_, ?_, ?_, ?_, ?_, ?_, ?_, ?_, ?_, ?_, ?_, ?_, ?_, ?_, ?_⟩ <;> rfl

/-- The sixteen opcodes 0x20 to 0x2F. -/
theorem test_decode_20_to_2F :
    decodeBytes [0x20, 0x34, 0x12] = .ok (.jsrAbs 0x1234, []) ∧
    decodeBytes [0x21, 0x34] = .ok (.andIzx 0x34, []) ∧
    decodeBytes [0x22] = .ok (.kil22, []) ∧
    decodeBytes [0x23, 0x34] = .ok (.rlaIzx 0x34, []) ∧
    decodeBytes [0x24, 0x34] = .ok (.bitZp 0x34, []) ∧
    decodeBytes [0x25, 0x34] = .ok (.andZp 0x34, []) ∧
    decodeBytes [0x26, 0x34] = .ok (.rolZp 0x34, []) ∧
    decodeBytes [0x27, 0x34] = .ok (.rlaZp 0x34, []) ∧
    decodeBytes [0x28] = .ok (.plp, []) ∧
    decodeBytes [0x29, 0x34] = .ok (.andImm 0x34, []) ∧
    decodeBytes [0x2A] = .ok (.rolAcc, []) ∧
    decodeBytes [0x2B, 0x34] = .ok (.ancImm2B 0x34, []) ∧
    decodeBytes [0x2C, 0x34, 0x12] = .ok (.bitAbs 0x1234, []) ∧
    decodeBytes [0x2D, 0x34, 0x12] = .ok (.andAbs 0x1234, []) ∧
    decodeBytes [0x2E, 0x34, 0x12] = .ok (.rolAbs 0x1234, []) ∧
    decodeBytes [0x2F, 0x34, 0x12] = .ok (.rlaAbs 0x1234, []) := by
  refine ⟨?_, ?_, ?_, ?_, ?_, ?_, ?_, ?_, ?_, ?_, ?_, ?_, ?_, ?_, ?_, ?_⟩ <;> rfl

/-- The sixteen opcodes 0x30 to 0x3F. -/
theorem test_decode_30_to_3F :
    decodeBytes [0x30, 0x34] = .ok (.bmi 0x34, []) ∧
    decodeBytes [0x31, 0x34] = .ok (.andIzy 0x34, []) ∧
    decodeBytes [0x32] = .ok (.kil32, []) ∧
    decodeBytes [0x33, 0x34] = .ok (.rlaIzy 0x34, []) ∧
    decodeBytes [0x34, 0x34] = .ok (.nopZpx34 0x34, []) ∧
    decodeBytes [0x35, 0x34] = .ok (.andZpx 0x34, []) ∧
    decodeBytes [0x36, 0x34] = .ok (.rolZpx 0x34, []) ∧
    decodeBytes [0x37, 0x34] = .ok (.rlaZpx 0x34, []) ∧
    decodeBytes [0x38] = .ok (.sec, []) ∧
    decodeBytes [0x39, 0x34, 0x12] = .ok (.andAby 0x1234, []) ∧
    decodeBytes [0x3A] = .ok (.nopImp3A, []) ∧
    decodeBytes [0x3B, 0x34, 0x12] = .ok (.rlaAby 0x1234, []) ∧
    decodeBytes [0x3C, 0x34, 0x12] = .ok (.nopAbx3C 0x1234, []) ∧
    decodeBytes [0x3D, 0x34, 0x12] = .ok (.andAbx 0x1234, []) ∧
    decodeBytes [0x3E, 0x34, 0x12] = .ok (.rolAbx 0x1234, []) ∧
    decodeBytes [0x3F, 0x34, 0x12] = .ok (.rlaAbx 0x1234, []) := by
  refine ⟨?_, ?_, ?_, ?_, ?_, ?_, ?_, ?_, ?_, ?_, ?_, ?_, ?_, ?_, ?_, ?_⟩ <;> rfl

/-- The sixteen opcodes 0x40 to 0x4F. -/
theorem test_decode_40_to_4F :
    decodeBytes [0x40] = .ok (.rti, []) ∧
    decodeBytes [0x41, 0x34] = .ok (.eorIzx 0x34, []) ∧
    decodeBytes [0x42] = .ok (.kil42, []) ∧
    decodeBytes [0x43, 0x34] = .ok (.sreIzx 0x34, []) ∧
    decodeBytes [0x44, 0x34] = .ok (.nopZp44 0x34, []) ∧
    decodeBytes [0x45, 0x34] = .ok (.eorZp 0x34, []) ∧
    decodeBytes [0x46, 0x34] = .ok (.lsrZp 0x34, []) ∧
    decodeBytes [0x47, 0x34] = .ok (.sreZp 0x34, []) ∧
    decodeBytes [0x48] = .ok (.pha, []) ∧
    decodeBytes [0x49, 0x34] = .ok (.eorImm 0x34, []) ∧
    decodeBytes [0x4A] = .ok (.lsrAcc, []) ∧
    decodeBytes [0x4B, 0x34] = .ok (.alrImm 0x34, []) ∧
    decodeBytes [0x4C, 0x34, 0x12] = .ok (.jmpAbs 0x1234, []) ∧
    decodeBytes [0x4D, 0x34, 0x12] = .ok (.eorAbs 0x1234, []) ∧
    decodeBytes [0x4E, 0x34, 0x12] = .ok (.lsrAbs 0x1234, []) ∧
    decodeBytes [0x4F, 0x34, 0x12] = .ok (.sreAbs 0x1234, []) := by
  refine ⟨?_, ?_, ?_, ?_, ?_, ?_, ?_, ?_, ?_, ?_, ?_, ?_, ?_, ?_, ?_, ?_⟩ <;> rfl

/-- The sixteen opcodes 0x50 to 0x5F. -/
theorem test_decode_50_to_5F :
    decodeBytes [0x50, 0x34] = .ok (.bvc 0x34, []) ∧
    decodeBytes [0x51, 0x34] = .ok (.eorIzy 0x34, []) ∧
    decodeBytes [0x52] = .ok (.kil52, []) ∧
    decodeBytes [0x53, 0x34] = .ok (.sreIzy 0x34, []) ∧
    decodeBytes [0x54, 0x34] = .ok (.nopZpx54 0x34, []) ∧
    decodeBytes [0x55, 0x34] = .ok (.eorZpx 0x34, []) ∧
    decodeBytes [0x56, 0x34] = .ok (.lsrZpx 0x34, []) ∧
    decodeBytes [0x57, 0x34] = .ok (.sreZpx 0x34, []) ∧
    decodeBytes [0x58] = .ok (.cli, []) ∧
    decodeBytes [0x59, 0x34, 0x12] = .ok (.eorAby 0x1234, []) ∧
    decodeBytes [0x5A] = .ok (.nopImp5A, []) ∧
    decodeBytes [0x5B, 0x34, 0x12] = .ok (.sreAby 0x1234, []) ∧
    decodeBytes [0x5C, 0x34, 0x12] = .ok (.nopAbx5C 0x1234, []) ∧
    decodeBytes [0x5D, 0x34, 0x12] = .ok (.eorAbx 0x1234, []) ∧
    decodeBytes [0x5E, 0x34, 0x12] = .ok (.lsrAbx 0x1234, []) ∧
    decodeBytes [0x5F, 0x34, 0x12] = .ok (.sreAbx 0x1234, []) := by
  refine ⟨?_, ?_, ?_, ?_, ?_, ?_, ?_, ?_, ?_, ?_, ?_, ?_, ?_, ?_, ?_, ?_⟩ <;> rfl

/-- The sixteen opcodes 0x60 to 0x6F. -/
theorem test_decode_60_to_6F :
    decodeBytes [0x60] = .ok (.rts, []) ∧
    decodeBytes [0x61, 0x34] = .ok (.adcIzx 0x34, []) ∧
    decodeBytes [0x62] = .ok (.kil62, []) ∧
    decodeBytes [0x63, 0x34] = .ok (.rraIzx 0x34, []) ∧
    decodeBytes [0x64, 0x34] = .ok (.nopZp64 0x34, []) ∧
    decodeBytes [0x65, 0x34] = .ok (.adcZp 0x34, []) ∧
    decodeBytes [0x66, 0x34] = .ok (.rorZp 0x34, []) ∧
    decodeBytes [0x67, 0x34] = .ok (.rraZp 0x34, []) ∧
    decodeBytes [0x68] = .ok (.pla, []) ∧
    decodeBytes [0x69, 0x34] = .ok (.adcImm 0x34, []) ∧
    decodeBytes [0x6A] = .ok (.rorAcc, []) ∧
    decodeBytes [0x6B, 0x34] = .ok (.arrImm 0x34, []) ∧
    decodeBytes [0x6C, 0x34, 0x12] = .ok (.jmpInd 0x1234, []) ∧
    decodeBytes [0x6D, 0x34, 0x12] = .ok (.adcAbs 0x1234, []) ∧
    decodeBytes [0x6E, 0x34, 0x12] = .ok (.rorAbs 0x1234, []) ∧
    decodeBytes [0x6F, 0x34, 0x12] = .ok (.rraAbs 0x1234, []) := by
  refine ⟨?_, ?_, ?_, ?_, ?_, ?_, ?_, ?_, ?_, ?_, ?_, ?_, ?_, ?_, ?_, ?_⟩ <;> rfl

/-- The sixteen opcodes 0x70 to 0x7F. -/
theorem test_decode_70_to_7F :
    decodeBytes [0x70, 0x34] = .ok (.bvs 0x34, []) ∧
    decodeBytes [0x71, 0x34] = .ok (.adcIzy 0x34, []) ∧
    decodeBytes [0x72] = .ok (.kil72, []) ∧
    decodeBytes [0x73, 0x34] = .ok (.rraIzy 0x34, []) ∧
    decodeBytes [0x74, 0x34] = .ok (.nopZpx74 0x34, []) ∧
    decodeBytes [0x75, 0x34] = .ok (.adcZpx 0x34, []) ∧
    decodeBytes [0x76, 0x34] = .ok (.rorZpx 0x34, []) ∧
    decodeBytes [0x77, 0x34] = .ok (.rraZpx 0x34, []) ∧
    decodeBytes [0x78] = .ok (.sei, []) ∧
    decodeBytes [0x79, 0x34, 0x12] = .ok (.adcAby 0x1234, []) ∧
    decodeBytes [0x7A] = .ok (.nopImp7A, []) ∧
    decodeBytes [0x7B, 0x34, 0x12] = .ok (.rraAby 0x1234, []) ∧
    decodeBytes [0x7C, 0x34, 0x12] = .ok (.nopAbx7C 0x1234, []) ∧
    decodeBytes [0x7D, 0x34, 0x12] = .ok (.adcAbx 0x1234, []) ∧
    decodeBytes [0x7E, 0x34, 0x12] = .ok (.rorAbx 0x1234, []) ∧
    decodeBytes [0x7F, 0x34, 0x12] = .ok (.rraAbx 0x1234, []) := by
  refine ⟨?_, ?_, ?_, ?_, ?_, ?_, ?_, ?_, ?_, ?_, ?_, ?_, ?_, ?_, ?_, ?_⟩ <;> rfl

/-- The sixteen opcodes 0x80 to 0x8F. -/
theorem test_decode_80_to_8F :
    decodeBytes [0x80, 0x34] = .ok (.nopImm80 0x34, []) ∧
    decodeBytes [0x81, 0x34] = .ok (.staIzx 0x34, []) ∧
    decodeBytes [0x82, 0x34] = .ok (.nopImm82 0x34, []) ∧
    decodeBytes [0x83, 0x34] = .ok (.saxIzx 0x34, []) ∧
    decodeBytes [0x84, 0x34] = .ok (.styZp 0x34, []) ∧
    decodeBytes [0x85, 0x34] = .ok (.staZp 0x34, []) ∧
    decodeBytes [0x86, 0x34] = .ok (.stxZp 0x34, []) ∧
    decodeBytes [0x87, 0x34] = .ok (.saxZp 0x34, []) ∧
    decodeBytes [0x88] = .ok (.dey, []) ∧
    decodeBytes [0x89, 0x34] = .ok (.nopImm89 0x34, []) ∧
    decodeBytes [0x8A] = .ok (.txa, []) ∧
    decodeBytes [0x8B, 0x34] = .ok (.xaaImm 0x34, []) ∧
    decodeBytes [0x8C, 0x34, 0x12] = .ok (.styAbs 0x1234, []) ∧
    decodeBytes [0x8D, 0x34, 0x12] = .ok (.staAbs 0x1234, []) ∧
    decodeBytes [0x8E, 0x34, 0x12] = .ok (.stxAbs 0x1234, []) ∧
    decodeBytes [0x8F, 0x34, 0x12] = .ok (.saxAbs 0x1234, []) := by
  refine ⟨?_, ?_, ?_, ?_, ?_, ?_, ?_, ?_, ?_, ?_, ?_, ?_, ?_, ?_, ?_, ?_⟩ <;> rfl

/-- The sixteen opcodes 0x90 to 0x9F. -/
theorem test_decode_90_to_9F :
    decodeBytes [0x90, 0x34] = .ok (.bcc 0x34, []) ∧
    decodeBytes [0x91, 0x34] = .ok (.staIzy 0x34, []) ∧
    decodeBytes [0x92] = .ok (.kil92, []) ∧
    decodeBytes [0x93, 0x34] = .ok (.ahxIzy 0x34, []) ∧
    decodeBytes [0x94, 0x34] = .ok (.styZpx 0x34, []) ∧
    decodeBytes [0x95, 0x34] = .ok (.staZpx 0x34, []) ∧
    decodeBytes [0x96, 0x34] = .ok (.stxZpy 0x34, []) ∧
    decodeBytes [0x97, 0x34] = .ok (.saxZpy 0x34, []) ∧
    decodeBytes [0x98] = .ok (.tya, []) ∧
    decodeBytes [0x99, 0x34, 0x12] = .ok (.staAby 0x1234, []) ∧
    decodeBytes [0x9A] = .ok (.txs, []) ∧
    decodeBytes [0x9B, 0x34, 0x12] = .ok (.tasAby 0x1234, []) ∧
    decodeBytes [0x9C, 0x34, 0x12] = .ok (.shyAbx 0x1234, []) ∧
    decodeBytes [0x9D, 0x34, 0x12] = .ok (.staAbx 0x1234, []) ∧
    decodeBytes [0x9E, 0x34, 0x12] = .ok (.shxAby 0x1234, []) ∧
    decodeBytes [0x9F, 0x34, 0x12] = .ok (.ahxAby 0x1234, []) := by
  refine ⟨?_, ?_, ?_, ?_, ?_, ?_, ?_, ?_, ?_, ?_, ?_, ?_, ?_, ?_, ?_, ?_⟩ <;> rfl

/-- The sixteen opcodes 0xA0 to 0xAF. -/
theorem test_decode_A0_to_AF :
    decodeBytes [0xA0, 0x34] = .ok (.ldyImm 0x34, []) ∧
    decodeBytes [0xA1, 0x34] = .ok (.ldaIzx 0x34, []) ∧
    decodeBytes [0xA2, 0x34] = .ok (.ldxImm 0x34, []) ∧
    decodeBytes [0xA3, 0x34] = .ok (.laxIzx 0x34, []) ∧
    decodeBytes [0xA4, 0x34] = .ok (.ldyZp 0x34, []) ∧
    decodeBytes [0xA5, 0x34] = .ok (.ldaZp 0x34, []) ∧
    decodeBytes [0xA6, 0x34] = .ok (.ldxZp 0x34, []) ∧
    decodeBytes [0xA7, 0x34] = .ok (.laxZp 0x34, []) ∧
    decodeBytes [0xA8] = .ok (.tay, []) ∧
    decodeBytes [0xA9, 0x34] = .ok (.ldaImm 0x34, []) ∧
    decodeBytes [0xAA] = .ok (.tax, []) ∧
    decodeBytes [0xAB, 0x34] = .ok (.laxImm 0x34, []) ∧
    decodeBytes [0xAC, 0x34, 0x12] = .ok (.ldyAbs 0x1234, []) ∧
    decodeBytes [0xAD, 0x34, 0x12] = .ok (.ldaAbs 0x1234, []) ∧
    decodeBytes [0xAE, 0x34, 0x12] = .ok (.ldxAbs 0x1234, []) ∧
    decodeBytes [0xAF, 0x34, 0x12] = .ok (.laxAbs 0x1234, []) := by
  refine ⟨?_, ?_, ?_, ?_, ?_, ?_, ?_, ?_, ?_, ?_, ?_, ?_, ?_, ?_, ?_, ?_⟩ <;> rfl

/-- The sixteen opcodes 0xB0 to 0xBF. -/
theorem test_decode_B0_to_BF :
    decodeBytes [0xB0, 0x34] = .ok (.bcs 0x34, []) ∧
    decodeBytes [0xB1, 0x34] = .ok (.ldaIzy 0x34, []) ∧
    decodeBytes [0xB2] = .ok (.kilB2, []) ∧
    decodeBytes [0xB3, 0x34] = .ok (.laxIzy 0x34, []) ∧
    decodeBytes [0xB4, 0x34] = .ok (.ldyZpx 0x34, []) ∧
    decodeBytes [0xB5, 0x34] = .ok (.ldaZpx 0x34, []) ∧
    decodeBytes [0xB6, 0x34] = .ok (.ldxZpy 0x34, []) ∧
    decodeBytes [0xB7, 0x34] = .ok (.laxZpy 0x34, []) ∧
    decodeBytes [0xB8] = .ok (.clv, []) ∧
    decodeBytes [0xB9, 0x34, 0x12] = .ok (.ldaAby 0x1234, []) ∧
    decodeBytes [0xBA] = .ok (.tsx, []) ∧
    decodeBytes [0xBB, 0x34, 0x12] = .ok (.lasAby 0x1234, []) ∧
    decodeBytes [0xBC, 0x34, 0x12] = .ok (.ldyAbx 0x1234, []) ∧
    decodeBytes [0xBD, 0x34, 0x12] = .ok (.ldaAbx 0x1234, []) ∧
    decodeBytes [0xBE, 0x34, 0x12] = .ok (.ldxAby 0x1234, []) ∧
    decodeBytes [0xBF, 0x34, 0x12] = .ok (.laxAby 0x1234, []) := by
  refine ⟨?_, ?_, ?_, ?_, ?_, ?_, ?_, ?_, ?_, ?_, ?_, ?_, ?_, ?_, ?_, ?_⟩ <;> rfl

/-- The sixteen opcodes 0xC0 to 0xCF. -/
theorem test_decode_C0_to_CF :
    decodeBytes [0xC0, 0x34] = .ok (.cpyImm 0x34, []) ∧
    decodeBytes [0xC1, 0x34] = .ok (.cmpIzx 0x34, []) ∧
    decodeBytes [0xC2, 0x34] = .ok (.nopImmC2 0x34, []) ∧
    decodeBytes [0xC3, 0x34] = .ok (.dcpIzx 0x34, []) ∧
    decodeBytes [0xC4, 0x34] = .ok (.cpyZp 0x34, []) ∧
    decodeBytes [0xC5, 0x34] = .ok (.cmpZp 0x34, []) ∧
    decodeBytes [0xC6, 0x34] = .ok (.decZp 0x34, []) ∧
    decodeBytes [0xC7, 0x34] = .ok (.dcpZp 0x34, []) ∧
    decodeBytes [0xC8] = .ok (.iny, []) ∧
    decodeBytes [0xC9, 0x34] = .ok (.cmpImm 0x34, []) ∧
    decodeBytes [0xCA] = .ok (.dex, []) ∧
    decodeBytes [0xCB, 0x34] = .ok (.axsImm 0x34, []) ∧
    decodeBytes [0xCC, 0x34, 0x12] = .ok (.cpyAbs 0x1234, []) ∧
    decodeBytes [0xCD, 0x34, 0x12] = .ok (.cmpAbs 0x1234, []) ∧
    decodeBytes [0xCE, 0x34, 0x12] = .ok (.decAbs 0x1234, []) ∧
    decodeBytes [0xCF, 0x34, 0x12] = .ok (.dcpAbs 0x1234, []) := by
  refine ⟨?_, ?_, ?_, ?_, ?_, ?_, ?_, ?_, ?_, ?_, ?_, ?_, ?_, ?_, ?_, ?_⟩ <;> rfl

/-- The sixteen opcodes 0xD0 to 0xDF. -/
theorem test_decode_D0_to_DF :
    decodeBytes [0xD0, 0x34] = .ok (.bne 0x34, []) ∧
    decodeBytes [0xD1, 0x34] = .ok (.cmpIzy 0x34, []) ∧
    decodeBytes [0xD2] = .ok (.kilD2, []) ∧
    decodeBytes [0xD3, 0x34] = .ok (.dcpIzy 0x34, []) ∧
    decodeBytes [0xD4, 0x34] = .ok (.nopZpxD4 0x34, []) ∧
    decodeBytes [0xD5, 0x34] = .ok (.cmpZpx 0x34, []) ∧
    decodeBytes [0xD6, 0x34] = .ok (.decZpx 0x34, []) ∧
    decodeBytes [0xD7, 0x34] = .ok (.dcpZpx 0x34, []) ∧
    decodeBytes [0xD8] = .ok (.cld, []) ∧
    decodeBytes [0xD9, 0x34, 0x12] = .ok (.cmpAby 0x1234, []) ∧
    decodeBytes [0xDA] = .ok (.nopImpDA, []) ∧
    decodeBytes [0xDB, 0x34, 0x12] = .ok (.dcpAby 0x1234, []) ∧
    decodeBytes [0xDC, 0x34, 0x12] = .ok (.nopAbxDC 0x1234, []) ∧
    decodeBytes [0xDD, 0x34, 0x12] = .ok (.cmpAbx 0x1234, []) ∧
    decodeBytes [0xDE, 0x34, 0x12] = .ok (.decAbx 0x1234, []) ∧
    decodeBytes [0xDF, 0x34, 0x12] = .ok (.dcpAbx 0x1234, []) := by
  refine ⟨?_, ?_, ?_, ?_, ?_, ?_, ?_, ?_, ?_, ?_, ?_, ?_, ?_, ?_, ?_, ?_⟩ <;> rfl

/-- The sixteen opcodes 0xE0 to 0xEF. -/
theorem test_decode_E0_to_EF :
    decodeBytes [0xE0, 0x34] = .ok (.cpxImm 0x34, []) ∧
    decodeBytes [0xE1, 0x34] = .ok (.sbcIzx 0x34, []) ∧
    decodeBytes [0xE2, 0x34] = .ok (.nopImmE2 0x34, []) ∧
    decodeBytes [0xE3, 0x34] = .ok (.iscIzx 0x34, []) ∧
    decodeBytes [0xE4, 0x34] = .ok (.cpxZp 0x34, []) ∧
    decodeBytes [0xE5, 0x34] = .ok (.sbcZp 0x34, []) ∧
    decodeBytes [0xE6, 0x34] = .ok (.incZp 0x34, []) ∧
    decodeBytes [0xE7, 0x34] = .ok (.iscZp 0x34, []) ∧
    decodeBytes [0xE8] = .ok (.inx, []) ∧
    decodeBytes [0xE9, 0x34] = .ok (.sbcImm 0x34, []) ∧
    decodeBytes [0xEA] = .ok (.nop, []) ∧
    decodeBytes [0xEB, 0x34] = .ok (.sbcImmEB 0x34, []) ∧
    decodeBytes [0xEC, 0x34, 0x12] = .ok (.cpxAbs 0x1234, []) ∧
    decodeBytes [0xED, 0x34, 0x12] = .ok (.sbcAbs 0x1234, []) ∧
    decodeBytes [0xEE, 0x34, 0x12] = .ok (.incAbs 0x1234, []) ∧
    decodeBytes [0xEF, 0x34, 0x12] = .ok (.iscAbs 0x1234, []) := by
  refine ⟨?_, ?_, ?_, ?_, ?_, ?_, ?_, ?_, ?_, ?_, ?_, ?_, ?_, ?_, ?_, ?_⟩ <;> rfl

/-- The sixteen opcodes 0xF0 to 0xFF. -/
theorem test_decode_F0_to_FF :
    decodeBytes [0xF0, 0x34] = .ok (.beq 0x34, []) ∧
    decodeBytes [0xF1, 0x34] = .ok (.sbcIzy 0x34, []) ∧
    decodeBytes [0xF2] = .ok (.kilF2, []) ∧
    decodeBytes [0xF3, 0x34] = .ok (.iscIzy 0x34, []) ∧
    decodeBytes [0xF4, 0x34] = .ok (.nopZpxF4 0x34, []) ∧
    decodeBytes [0xF5, 0x34] = .ok (.sbcZpx 0x34, []) ∧
    decodeBytes [0xF6, 0x34] = .ok (.incZpx 0x34, []) ∧
    decodeBytes [0xF7, 0x34] = .ok (.iscZpx 0x34, []) ∧
    decodeBytes [0xF8] = .ok (.sed, []) ∧
    decodeBytes [0xF9, 0x34, 0x12] = .ok (.sbcAby 0x1234, []) ∧
    decodeBytes [0xFA] = .ok (.nopImpFA, []) ∧
    decodeBytes [0xFB, 0x34, 0x12] = .ok (.iscAby 0x1234, []) ∧
    decodeBytes [0xFC, 0x34, 0x12] = .ok (.nopAbxFC 0x1234, []) ∧
    decodeBytes [0xFD, 0x34, 0x12] = .ok (.sbcAbx 0x1234, []) ∧
    decodeBytes [0xFE, 0x34, 0x12] = .ok (.incAbx 0x1234, []) ∧
    decodeBytes [0xFF, 0x34, 0x12] = .ok (.iscAbx 0x1234, []) := by
  refine ⟨?_, ?_, ?_, ?_, ?_, ?_, ?_, ?_, ?_, ?_, ?_, ?_, ?_, ?_, ?_, ?_⟩ <;> rfl

/-- Bytes that end too early are rejected by name. -/
theorem test_decode_truncated : decodeBytes [] = .error .truncated ∧ decodeBytes [0xA9] = .error .truncated ∧
    decodeBytes [0xAD, 0x34] = .error .truncated := by
  refine ⟨?_, ?_, ?_⟩ <;> rfl

/-- The table numbers the operand bytes above the opcode; what it gives no bits reads as zero. -/
theorem test_decodeTableWord : decodeTableWord 24 0x1234AD = some (.ldaAbs 0x1234) ∧
    decodeTableWord 8 0xAD = some (.ldaAbs 0x0000) ∧ decodeTableWord 16 0x42A9 = some (.ldaImm 0x42) := by
  refine ⟨?_, ?_, ?_⟩ <;> rfl

/-! ### One step: the spec's test vectors -/

/-- What a vector checks after its step. -/
structure Seen where
  a : Byte
  x : Byte
  y : Byte
  sp : Byte
  pc : Word
  p : Byte
  cycles : Nat
  writes : List (Word × Byte)
  deriving DecidableEq, Repr

/-- The checked parts of the state an outcome leaves. -/
def seen (o : Host.Outcome State Fault Refusal) : Option Seen :=
  match o with
  | .next t => some ⟨t.a, t.x, t.y, t.sp, t.pc, packP t.p, t.cycles, t.trace.filterMap fun
    | .read _ _ => none
    | .write b v => some (b, v)⟩
  | .fault _ => none
  | .refused _ => none

/-- Memory that holds the listed bytes. -/
def memOf (l : List (Nat × Byte)) : Memory := l.foldl (fun m c => memWrite m c.1 c.2) []

/-- A state past its reset with the given registers, flags byte and memory. -/
def stateOf (a x y sp : Byte) (pc : Word) (p : Byte) (l : List (Nat × Byte)) : State :=
  { State.reset with a := a, x := x, y := y, sp := sp, pc := pc, p := unpackP p, mem := memOf l }

/-- BRK: vector T11.1. -/
theorem test_brk_T11_1 :
    seen (step (stateOf 0x00 0x00 0x00 0xFD 0x0200 0x24
      [(0xFFFE, 0x00), (0xFFFF, 0x90), (0x0200, 0x00)])) =
    some ⟨0x00, 0x00, 0x00, 0xFA, 0x9000, 0x24, 7, [(0x01FD, 0x02), (0x01FC, 0x02), (0x01FB, 0x34)]⟩ := by decide

/-- BRK: vector T11.3. -/
theorem test_brk_T11_3 :
    seen (step (stateOf 0x00 0x00 0x00 0xFD 0xFFFF 0x24
      [(0xFFFC, 0x00), (0xFFFD, 0x02), (0xFFFE, 0x34), (0xFFFF, 0x00)])) =
    some ⟨0x00, 0x00, 0x00, 0xFA, 0x0034, 0x24, 7, [(0x01FD, 0x00), (0x01FC, 0x01), (0x01FB, 0x34)]⟩ := by decide

/-- ORA: vector T5.4. -/
theorem test_ora_T5_4 :
    seen (step (stateOf 0x00 0x00 0x00 0xFD 0x0200 0x24
      [(0x0200, 0x09), (0x0201, 0x00)])) =
    some ⟨0x00, 0x00, 0x00, 0xFD, 0x0202, 0x26, 2, []⟩ := by decide

/-- KIL: vector T12.40. -/
theorem test_kil_T12_40 :
    seen (step (stateOf 0x00 0x00 0x00 0xFD 0x0200 0x24
      [(0x0200, 0xF2)])) =
    some ⟨0x00, 0x00, 0x00, 0xFD, 0x0201, 0x24, 2, []⟩ := by decide

/-- SLO: vector T12.17. -/
theorem test_slo_T12_17 :
    seen (step (stateOf 0x00 0x04 0x00 0xFD 0x0200 0x24
      [(0x0024, 0x00), (0x0025, 0x30), (0x3000, 0x01), (0x0200, 0x03), (0x0201, 0x20)])) =
    some ⟨0x02, 0x04, 0x00, 0xFD, 0x0202, 0x24, 8, [(0x3000, 0x02)]⟩ := by decide

/-- NOP: vector T12.36. -/
theorem test_nop_T12_36 :
    seen (step (stateOf 0x00 0x01 0x00 0xFD 0x0200 0x24
      [(0x0200, 0x1C), (0x0201, 0x00), (0x0202, 0x30)])) =
    some ⟨0x00, 0x01, 0x00, 0xFD, 0x0203, 0x24, 4, []⟩ := by decide

/-- ASL: vector T4.1. -/
theorem test_asl_T4_1 :
    seen (step (stateOf 0x81 0x00 0x00 0xFD 0x0200 0x24
      [(0x0200, 0x0A)])) =
    some ⟨0x02, 0x00, 0x00, 0xFD, 0x0201, 0x25, 2, []⟩ := by decide

/-- ASL: vector T4.4. -/
theorem test_asl_T4_4 :
    seen (step (stateOf 0x00 0x01 0x00 0xFD 0x0200 0x24
      [(0x2100, 0x01), (0x0200, 0x1E), (0x0201, 0xFF), (0x0202, 0x20)])) =
    some ⟨0x00, 0x01, 0x00, 0xFD, 0x0203, 0x24, 7, [(0x2100, 0x02)]⟩ := by decide

/-- PHP: vector T10.5. -/
theorem test_php_T10_5 :
    seen (step (stateOf 0x00 0x00 0x00 0xFD 0x0200 0x24
      [(0x0200, 0x08)])) =
    some ⟨0x00, 0x00, 0x00, 0xFC, 0x0201, 0x24, 3, [(0x01FD, 0x34)]⟩ := by decide

/-- PHP: vector T10.7. -/
theorem test_php_T10_7 :
    seen (step (stateOf 0x00 0x00 0x00 0xFD 0x0200 0x00
      [(0x0200, 0x08)])) =
    some ⟨0x00, 0x00, 0x00, 0xFC, 0x0201, 0x20, 3, [(0x01FD, 0x30)]⟩ := by decide

/-- ANC: vector T12.18. -/
theorem test_anc_T12_18 :
    seen (step (stateOf 0x80 0x00 0x00 0xFD 0x0200 0x24
      [(0x0200, 0x0B), (0x0201, 0xFF)])) =
    some ⟨0x80, 0x00, 0x00, 0xFD, 0x0202, 0x24, 2, []⟩ := by decide

/-- BPL: vector T8.2. -/
theorem test_bpl_T8_2 :
    seen (step (stateOf 0x00 0x00 0x00 0xFD 0x0200 0xA4
      [(0x0200, 0x10), (0x0201, 0x02)])) =
    some ⟨0x00, 0x00, 0x00, 0xFD, 0x0202, 0xA4, 2, []⟩ := by decide

/-- CLC: vector T11.7. -/
theorem test_clc_T11_7 :
    seen (step (stateOf 0x00 0x00 0x00 0xFD 0x0200 0xEF
      [(0x0200, 0x18)])) =
    some ⟨0x00, 0x00, 0x00, 0xFD, 0x0201, 0xEE, 2, []⟩ := by decide

/-- JSR: vector T9.7. -/
theorem test_jsr_T9_7 :
    seen (step (stateOf 0x00 0x00 0x00 0xFD 0x01FB 0x24
      [(0x01FB, 0x20), (0x01FC, 0xFC), (0x01FD, 0x01)])) =
    some ⟨0x00, 0x00, 0x00, 0xFB, 0x01FC, 0x24, 6, [(0x01FD, 0x01), (0x01FC, 0xFD)]⟩ := by decide

/-- AND: vector T5.2. -/
theorem test_and_T5_2 :
    seen (step (stateOf 0x9F 0x00 0x00 0xFD 0x0200 0x67
      [(0x0200, 0x29), (0x0201, 0xF0)])) =
    some ⟨0x90, 0x00, 0x00, 0xFD, 0x0202, 0xE5, 2, []⟩ := by decide

/-- RLA: vector T12.3. -/
theorem test_rla_T12_3 :
    seen (step (stateOf 0x0F 0x00 0x00 0xFD 0x0200 0x25
      [(0x0010, 0x80), (0x0200, 0x27), (0x0201, 0x10)])) =
    some ⟨0x01, 0x00, 0x00, 0xFD, 0x0202, 0x25, 5, [(0x0010, 0x01)]⟩ := by decide

/-- BIT: vector T5.7. -/
theorem test_bit_T5_7 :
    seen (step (stateOf 0x01 0x00 0x00 0xFD 0x0200 0x24
      [(0x0010, 0x41), (0x0200, 0x24), (0x0201, 0x10)])) =
    some ⟨0x01, 0x00, 0x00, 0xFD, 0x0202, 0x64, 3, []⟩ := by decide

/-- BIT: vector T5.10. -/
theorem test_bit_T5_10 :
    seen (step (stateOf 0x80 0x00 0x00 0xFD 0x0200 0x24
      [(0x3000, 0x80), (0x0200, 0x2C), (0x0201, 0x00), (0x0202, 0x30)])) =
    some ⟨0x80, 0x00, 0x00, 0xFD, 0x0203, 0xA4, 4, []⟩ := by decide

/-- ROL: vector T4.8. -/
theorem test_rol_T4_8 :
    seen (step (stateOf 0x80 0x00 0x00 0xFD 0x0200 0x25
      [(0x0200, 0x2A)])) =
    some ⟨0x01, 0x00, 0x00, 0xFD, 0x0201, 0x25, 2, []⟩ := by decide

/-- ROL: vector T4.11. -/
theorem test_rol_T4_11 :
    seen (step (stateOf 0x00 0x00 0x00 0xFD 0x0200 0x25
      [(0x0010, 0x00), (0x0200, 0x26), (0x0201, 0x10)])) =
    some ⟨0x00, 0x00, 0x00, 0xFD, 0x0202, 0x24, 5, [(0x0010, 0x01)]⟩ := by decide

/-- PLP: vector T10.8. -/
theorem test_plp_T10_8 :
    seen (step (stateOf 0x00 0x00 0x00 0xFC 0x0200 0x24
      [(0x01FD, 0xFF), (0x0200, 0x28)])) =
    some ⟨0x00, 0x00, 0x00, 0xFD, 0x0201, 0xEF, 4, []⟩ := by decide

/-- PLP: vector T10.10. -/
theorem test_plp_T10_10 :
    seen (step (stateOf 0x00 0x00 0x00 0xFC 0x0200 0x24
      [(0x01FD, 0x30), (0x0200, 0x28)])) =
    some ⟨0x00, 0x00, 0x00, 0xFD, 0x0201, 0x20, 4, []⟩ := by decide

/-- BMI: vector T8.4. -/
theorem test_bmi_T8_4 :
    seen (step (stateOf 0x00 0x00 0x00 0xFD 0x0200 0x24
      [(0x0200, 0x30), (0x0201, 0xFE)])) =
    some ⟨0x00, 0x00, 0x00, 0xFD, 0x0202, 0x24, 2, []⟩ := by decide

/-- SEC: vector T11.8. -/
theorem test_sec_T11_8 :
    seen (step (stateOf 0x00 0x00 0x00 0xFD 0x0200 0x20
      [(0x0200, 0x38)])) =
    some ⟨0x00, 0x00, 0x00, 0xFD, 0x0201, 0x21, 2, []⟩ := by decide

/-- RTI: vector T11.4. -/
theorem test_rti_T11_4 :
    seen (step (stateOf 0x00 0x00 0x00 0xFA 0x0200 0x24
      [(0x01FB, 0x34), (0x01FC, 0x02), (0x01FD, 0x02), (0x0200, 0x40)])) =
    some ⟨0x00, 0x00, 0x00, 0xFD, 0x0202, 0x24, 6, []⟩ := by decide

/-- RTI: vector T11.5. -/
theorem test_rti_T11_5 :
    seen (step (stateOf 0x00 0x00 0x00 0xFA 0x0200 0x24
      [(0x01FB, 0xFF), (0x01FC, 0x00), (0x01FD, 0x80), (0x0200, 0x40)])) =
    some ⟨0x00, 0x00, 0x00, 0xFD, 0x8000, 0xEF, 6, []⟩ := by decide

/-- EOR: vector T5.6. -/
theorem test_eor_T5_6 :
    seen (step (stateOf 0x5A 0x00 0x00 0xFD 0x0200 0x24
      [(0x0200, 0x49), (0x0201, 0x5A)])) =
    some ⟨0x00, 0x00, 0x00, 0xFD, 0x0202, 0x26, 2, []⟩ := by decide

/-- SRE: vector T12.4. -/
theorem test_sre_T12_4 :
    seen (step (stateOf 0xFF 0x00 0x00 0xFD 0x0200 0x24
      [(0x0010, 0x03), (0x0200, 0x47), (0x0201, 0x10)])) =
    some ⟨0xFE, 0x00, 0x00, 0xFD, 0x0202, 0xA5, 5, [(0x0010, 0x01)]⟩ := by decide

/-- LSR: vector T4.5. -/
theorem test_lsr_T4_5 :
    seen (step (stateOf 0x01 0x00 0x00 0xFD 0x0200 0x24
      [(0x0200, 0x4A)])) =
    some ⟨0x00, 0x00, 0x00, 0xFD, 0x0201, 0x27, 2, []⟩ := by decide

/-- LSR: vector T4.7. -/
theorem test_lsr_T4_7 :
    seen (step (stateOf 0x00 0x00 0x00 0xFD 0x0200 0x24
      [(0x0010, 0x02), (0x0200, 0x46), (0x0201, 0x10)])) =
    some ⟨0x00, 0x00, 0x00, 0xFD, 0x0202, 0x24, 5, [(0x0010, 0x01)]⟩ := by decide

/-- PHA: vector T10.2. -/
theorem test_pha_T10_2 :
    seen (step (stateOf 0x99 0x00 0x00 0x00 0x0200 0x24
      [(0x0200, 0x48)])) =
    some ⟨0x99, 0x00, 0x00, 0xFF, 0x0201, 0x24, 3, [(0x0100, 0x99)]⟩ := by decide

/-- ALR: vector T12.19. -/
theorem test_alr_T12_19 :
    seen (step (stateOf 0x03 0x00 0x00 0xFD 0x0200 0x24
      [(0x0200, 0x4B), (0x0201, 0xFF)])) =
    some ⟨0x03, 0x00, 0x00, 0xFD, 0x0202, 0x24, 2, []⟩ := by decide

/-- JMP: vector T1.15. -/
theorem test_jmp_T1_15 :
    seen (step (stateOf 0x00 0x00 0x00 0xFD 0x0200 0x24
      [(0x30FF, 0x80), (0x3000, 0x40), (0x3100, 0x50), (0x0200, 0x6C), (0x0201, 0xFF), (0x0202, 0x30)])) =
    some ⟨0x00, 0x00, 0x00, 0xFD, 0x4080, 0x24, 5, []⟩ := by decide

/-- JMP: vector T9.2. -/
theorem test_jmp_T9_2 :
    seen (step (stateOf 0x00 0x00 0x00 0xFD 0x0200 0x24
      [(0x0200, 0x4C), (0x0201, 0x00), (0x0202, 0x02)])) =
    some ⟨0x00, 0x00, 0x00, 0xFD, 0x0200, 0x24, 3, []⟩ := by decide

/-- BVC: vector T8.6. -/
theorem test_bvc_T8_6 :
    seen (step (stateOf 0x00 0x00 0x00 0xFD 0x0200 0x64
      [(0x0200, 0x50), (0x0201, 0x10)])) =
    some ⟨0x00, 0x00, 0x00, 0xFD, 0x0202, 0x64, 2, []⟩ := by decide

/-- CLI: vector T11.9. -/
theorem test_cli_T11_9 :
    seen (step (stateOf 0x00 0x00 0x00 0xFD 0x0200 0x24
      [(0x0200, 0x58)])) =
    some ⟨0x00, 0x00, 0x00, 0xFD, 0x0201, 0x20, 2, []⟩ := by decide

/-- RTS: vector T9.6. -/
theorem test_rts_T9_6 :
    seen (step (stateOf 0x00 0x00 0x00 0xFE 0x0200 0x24
      [(0x01FF, 0xFF), (0x0100, 0xFF), (0x0200, 0x60)])) =
    some ⟨0x00, 0x00, 0x00, 0x00, 0x0000, 0x24, 6, []⟩ := by decide

/-- ADC: vector T3.1. -/
theorem test_adc_T3_1 :
    seen (step (stateOf 0x50 0x00 0x00 0xFD 0x0200 0x24
      [(0x0200, 0x69), (0x0201, 0x10)])) =
    some ⟨0x60, 0x00, 0x00, 0xFD, 0x0202, 0x24, 2, []⟩ := by decide

/-- ADC: vector T3.10. -/
theorem test_adc_T3_10 :
    seen (step (stateOf 0x01 0x01 0x00 0xFD 0x0200 0x24
      [(0x2100, 0x02), (0x0200, 0x7D), (0x0201, 0xFF), (0x0202, 0x20)])) =
    some ⟨0x03, 0x01, 0x00, 0xFD, 0x0203, 0x24, 5, []⟩ := by decide

/-- RRA: vector T12.5. -/
theorem test_rra_T12_5 :
    seen (step (stateOf 0x10 0x00 0x00 0xFD 0x0200 0x24
      [(0x0010, 0x04), (0x0200, 0x67), (0x0201, 0x10)])) =
    some ⟨0x12, 0x00, 0x00, 0xFD, 0x0202, 0x24, 5, [(0x0010, 0x02)]⟩ := by decide

/-- RRA: vector T12.6. -/
theorem test_rra_T12_6 :
    seen (step (stateOf 0x7F 0x00 0x00 0xFD 0x0200 0x25
      [(0x0010, 0x01), (0x0200, 0x67), (0x0201, 0x10)])) =
    some ⟨0x00, 0x00, 0x00, 0xFD, 0x0202, 0x27, 5, [(0x0010, 0x80)]⟩ := by decide

/-- ROR: vector T4.12. -/
theorem test_ror_T4_12 :
    seen (step (stateOf 0x01 0x00 0x00 0xFD 0x0200 0x25
      [(0x0200, 0x6A)])) =
    some ⟨0x80, 0x00, 0x00, 0xFD, 0x0201, 0xA5, 2, []⟩ := by decide

/-- ROR: vector T4.15. -/
theorem test_ror_T4_15 :
    seen (step (stateOf 0x00 0x05 0x00 0xFD 0x0200 0x25
      [(0x3005, 0xFE), (0x0200, 0x7E), (0x0201, 0x00), (0x0202, 0x30)])) =
    some ⟨0x00, 0x05, 0x00, 0xFD, 0x0203, 0xA4, 7, [(0x3005, 0xFF)]⟩ := by decide

/-- PLA: vector T10.4. -/
theorem test_pla_T10_4 :
    seen (step (stateOf 0x00 0x00 0x00 0xFF 0x0200 0x24
      [(0x0100, 0x80), (0x0200, 0x68)])) =
    some ⟨0x80, 0x00, 0x00, 0x00, 0x0201, 0xA4, 4, []⟩ := by decide

/-- ARR: vector T12.20. -/
theorem test_arr_T12_20 :
    seen (step (stateOf 0x03 0x00 0x00 0xFD 0x0200 0x25
      [(0x0200, 0x6B), (0x0201, 0xFF)])) =
    some ⟨0x03, 0x00, 0x00, 0xFD, 0x0202, 0x25, 2, []⟩ := by decide

/-- BVS: vector T8.8. -/
theorem test_bvs_T8_8 :
    seen (step (stateOf 0x00 0x00 0x00 0xFD 0x0200 0x24
      [(0x0200, 0x70), (0x0201, 0x10)])) =
    some ⟨0x00, 0x00, 0x00, 0xFD, 0x0202, 0x24, 2, []⟩ := by decide

/-- SEI: vector T11.10. -/
theorem test_sei_T11_10 :
    seen (step (stateOf 0x00 0x00 0x00 0xFD 0x0200 0x20
      [(0x0200, 0x78)])) =
    some ⟨0x00, 0x00, 0x00, 0xFD, 0x0201, 0x24, 2, []⟩ := by decide

/-- STA: vector T1.17. -/
theorem test_sta_T1_17 :
    seen (step (stateOf 0xAB 0x20 0x00 0xFD 0x0200 0x24
      [(0x0200, 0x9D), (0x0201, 0xF0), (0x0202, 0x12)])) =
    some ⟨0xAB, 0x20, 0x00, 0xFD, 0x0203, 0x24, 5, [(0x1310, 0xAB)]⟩ := by decide

/-- STA: vector T2.11. -/
theorem test_sta_T2_11 :
    seen (step (stateOf 0x5A 0xFF 0x00 0xFD 0x0200 0x24
      [(0x00FF, 0x00), (0x0000, 0x81), (0x0200, 0x81), (0x0201, 0x00)])) =
    some ⟨0x5A, 0xFF, 0x00, 0xFD, 0x0202, 0x24, 6, [(0x8100, 0x5A)]⟩ := by decide

/-- SAX: vector T12.15. -/
theorem test_sax_T12_15 :
    seen (step (stateOf 0xFF 0x04 0x00 0xFD 0x0200 0x24
      [(0x0024, 0x00), (0x0025, 0x30), (0x0200, 0x83), (0x0201, 0x20)])) =
    some ⟨0xFF, 0x04, 0x00, 0xFD, 0x0202, 0x24, 6, [(0x3000, 0x04)]⟩ := by decide

/-- STY: vector T2.9. -/
theorem test_sty_T2_9 :
    seen (step (stateOf 0x00 0x01 0x33 0xFD 0x0200 0x24
      [(0x0200, 0x94), (0x0201, 0xFF)])) =
    some ⟨0x00, 0x01, 0x33, 0xFD, 0x0202, 0x24, 4, [(0x0000, 0x33)]⟩ := by decide

/-- STX: vector T2.10. -/
theorem test_stx_T2_10 :
    seen (step (stateOf 0x00 0x44 0x90 0xFD 0x0200 0x24
      [(0x0200, 0x96), (0x0201, 0x80)])) =
    some ⟨0x00, 0x44, 0x90, 0xFD, 0x0202, 0x24, 4, [(0x0010, 0x44)]⟩ := by decide

/-- DEY: vector T7.13. -/
theorem test_dey_T7_13 :
    seen (step (stateOf 0x00 0x00 0x81 0xFD 0x0200 0x24
      [(0x0200, 0x88)])) =
    some ⟨0x00, 0x00, 0x80, 0xFD, 0x0201, 0xA4, 2, []⟩ := by decide

/-- TXA: vector T2.14. -/
theorem test_txa_T2_14 :
    seen (step (stateOf 0xFF 0x7F 0x00 0xFD 0x0200 0x24
      [(0x0200, 0x8A)])) =
    some ⟨0x7F, 0x7F, 0x00, 0xFD, 0x0201, 0x24, 2, []⟩ := by decide

/-- XAA: vector T12.21. -/
theorem test_xaa_T12_21 :
    seen (step (stateOf 0x03 0x01 0x00 0xFD 0x0200 0x24
      [(0x0200, 0x8B), (0x0201, 0xFF)])) =
    some ⟨0x03, 0x01, 0x00, 0xFD, 0x0202, 0x24, 2, []⟩ := by decide

/-- BCC: vector T8.10. -/
theorem test_bcc_T8_10 :
    seen (step (stateOf 0x00 0x00 0x00 0xFD 0x0200 0x25
      [(0x0200, 0x90), (0x0201, 0x80)])) =
    some ⟨0x00, 0x00, 0x00, 0xFD, 0x0202, 0x25, 2, []⟩ := by decide

/-- AHX: vector T12.27. -/
theorem test_ahx_T12_27 :
    seen (step (stateOf 0xFF 0xFF 0x01 0xFD 0x0200 0x24
      [(0x0200, 0x9F), (0x0201, 0x00), (0x0202, 0x30)])) =
    some ⟨0xFF, 0xFF, 0x01, 0xFD, 0x0203, 0x24, 5, []⟩ := by decide

/-- TYA: vector T2.15. -/
theorem test_tya_T2_15 :
    seen (step (stateOf 0x00 0x00 0xFF 0xFD 0x0200 0x24
      [(0x0200, 0x98)])) =
    some ⟨0xFF, 0x00, 0xFF, 0xFD, 0x0201, 0xA4, 2, []⟩ := by decide

/-- TXS: vector T2.19. -/
theorem test_txs_T2_19 :
    seen (step (stateOf 0x00 0xFF 0x00 0xFD 0x0200 0x24
      [(0x0200, 0x9A)])) =
    some ⟨0x00, 0xFF, 0x00, 0xFF, 0x0201, 0x24, 2, []⟩ := by decide

/-- TAS: vector T12.23. -/
theorem test_tas_T12_23 :
    seen (step (stateOf 0xFF 0xFF 0x01 0xFD 0x0200 0x24
      [(0x0200, 0x9B), (0x0201, 0x00), (0x0202, 0x30)])) =
    some ⟨0xFF, 0xFF, 0x01, 0xFD, 0x0203, 0x24, 5, []⟩ := by decide

/-- SHY: vector T12.24. -/
theorem test_shy_T12_24 :
    seen (step (stateOf 0x00 0x01 0xFF 0xFD 0x0200 0x24
      [(0x0200, 0x9C), (0x0201, 0xFF), (0x0202, 0x30)])) =
    some ⟨0x00, 0x01, 0xFF, 0xFD, 0x0203, 0x24, 5, []⟩ := by decide

/-- SHX: vector T12.25. -/
theorem test_shx_T12_25 :
    seen (step (stateOf 0x00 0xFF 0x01 0xFD 0x0200 0x24
      [(0x0200, 0x9E), (0x0201, 0x00), (0x0202, 0x30)])) =
    some ⟨0x00, 0xFF, 0x01, 0xFD, 0x0203, 0x24, 5, []⟩ := by decide

/-- LDY: vector T2.5. -/
theorem test_ldy_T2_5 :
    seen (step (stateOf 0x00 0x01 0x00 0xFD 0x0200 0x24
      [(0x2100, 0x7F), (0x0200, 0xBC), (0x0201, 0xFF), (0x0202, 0x20)])) =
    some ⟨0x00, 0x01, 0x7F, 0xFD, 0x0203, 0x24, 5, []⟩ := by decide

/-- LDA: vector T1.1. -/
theorem test_lda_T1_1 :
    seen (step (stateOf 0x00 0x00 0x00 0xFD 0x0200 0x24
      [(0x0200, 0xA9), (0x0201, 0x42)])) =
    some ⟨0x42, 0x00, 0x00, 0xFD, 0x0202, 0x24, 2, []⟩ := by decide

/-- LDA: vector T2.2. -/
theorem test_lda_T2_2 :
    seen (step (stateOf 0x00 0x00 0x00 0xFD 0x0200 0x24
      [(0x0200, 0xA9), (0x0201, 0x80)])) =
    some ⟨0x80, 0x00, 0x00, 0xFD, 0x0202, 0xA4, 2, []⟩ := by decide

/-- LDX: vector T2.6. -/
theorem test_ldx_T2_6 :
    seen (step (stateOf 0x00 0x00 0x01 0xFD 0x0200 0x24
      [(0x2001, 0x81), (0x0200, 0xBE), (0x0201, 0x00), (0x0202, 0x20)])) =
    some ⟨0x00, 0x81, 0x01, 0xFD, 0x0203, 0xA4, 4, []⟩ := by decide

/-- LAX: vector T12.11. -/
theorem test_lax_T12_11 :
    seen (step (stateOf 0x00 0x00 0x00 0xFD 0x0200 0x24
      [(0x0010, 0x80), (0x0200, 0xA7), (0x0201, 0x10)])) =
    some ⟨0x80, 0x80, 0x00, 0xFD, 0x0202, 0xA4, 3, []⟩ := by decide

/-- LAX: vector T12.13. -/
theorem test_lax_T12_13 :
    seen (step (stateOf 0x00 0x00 0x20 0xFD 0x0200 0x24
      [(0x0010, 0xF0), (0x0011, 0x20), (0x2110, 0x07), (0x0200, 0xB3), (0x0201, 0x10)])) =
    some ⟨0x07, 0x07, 0x20, 0xFD, 0x0202, 0x24, 6, []⟩ := by decide

/-- TAY: vector T2.13. -/
theorem test_tay_T2_13 :
    seen (step (stateOf 0x00 0x00 0x01 0xFD 0x0200 0x24
      [(0x0200, 0xA8)])) =
    some ⟨0x00, 0x00, 0x00, 0xFD, 0x0201, 0x26, 2, []⟩ := by decide

/-- TAX: vector T2.12. -/
theorem test_tax_T2_12 :
    seen (step (stateOf 0x80 0x01 0x00 0xFD 0x0200 0x24
      [(0x0200, 0xAA)])) =
    some ⟨0x80, 0x80, 0x00, 0xFD, 0x0201, 0xA4, 2, []⟩ := by decide

/-- BCS: vector T8.12. -/
theorem test_bcs_T8_12 :
    seen (step (stateOf 0x00 0x00 0x00 0xFD 0x0200 0x24
      [(0x0200, 0xB0), (0x0201, 0x7F)])) =
    some ⟨0x00, 0x00, 0x00, 0xFD, 0x0202, 0x24, 2, []⟩ := by decide

/-- CLV: vector T11.11. -/
theorem test_clv_T11_11 :
    seen (step (stateOf 0x00 0x00 0x00 0xFD 0x0200 0xEF
      [(0x0200, 0xB8)])) =
    some ⟨0x00, 0x00, 0x00, 0xFD, 0x0201, 0xAF, 2, []⟩ := by decide

/-- TSX: vector T2.17. -/
theorem test_tsx_T2_17 :
    seen (step (stateOf 0x00 0x55 0x00 0x00 0x0200 0x24
      [(0x0200, 0xBA)])) =
    some ⟨0x00, 0x00, 0x00, 0x00, 0x0201, 0x26, 2, []⟩ := by decide

/-- LAS: vector T12.29. -/
theorem test_las_T12_29 :
    seen (step (stateOf 0x00 0x00 0x20 0xFD 0x0200 0x24
      [(0x2020, 0x0F), (0x0200, 0xBB), (0x0201, 0x00), (0x0202, 0x20)])) =
    some ⟨0x00, 0x00, 0x20, 0xFD, 0x0203, 0x24, 4, []⟩ := by decide

/-- CPY: vector T6.9. -/
theorem test_cpy_T6_9 :
    seen (step (stateOf 0x00 0x00 0x01 0xFD 0x0200 0x24
      [(0x3000, 0x02), (0x0200, 0xCC), (0x0201, 0x00), (0x0202, 0x30)])) =
    some ⟨0x00, 0x00, 0x01, 0xFD, 0x0203, 0xA4, 4, []⟩ := by decide

/-- CMP: vector T6.1. -/
theorem test_cmp_T6_1 :
    seen (step (stateOf 0x10 0x00 0x00 0xFD 0x0200 0x24
      [(0x0200, 0xC9), (0x0201, 0x10)])) =
    some ⟨0x10, 0x00, 0x00, 0xFD, 0x0202, 0x27, 2, []⟩ := by decide

/-- CMP: vector T6.5. -/
theorem test_cmp_T6_5 :
    seen (step (stateOf 0xFF 0x00 0x00 0xFD 0x0200 0x24
      [(0x0200, 0xC9), (0x0201, 0x00)])) =
    some ⟨0xFF, 0x00, 0x00, 0xFD, 0x0202, 0xA5, 2, []⟩ := by decide

/-- DCP: vector T12.8. -/
theorem test_dcp_T12_8 :
    seen (step (stateOf 0x00 0x00 0x00 0xFD 0x0200 0x24
      [(0x0010, 0x00), (0x0200, 0xC7), (0x0201, 0x10)])) =
    some ⟨0x00, 0x00, 0x00, 0xFD, 0x0202, 0x24, 5, [(0x0010, 0xFF)]⟩ := by decide

/-- DEC: vector T7.4. -/
theorem test_dec_T7_4 :
    seen (step (stateOf 0x00 0x00 0x00 0xFD 0x0200 0x24
      [(0x0010, 0x00), (0x0200, 0xC6), (0x0201, 0x10)])) =
    some ⟨0x00, 0x00, 0x00, 0xFD, 0x0202, 0xA4, 5, [(0x0010, 0xFF)]⟩ := by decide

/-- DEC: vector T7.6. -/
theorem test_dec_T7_6 :
    seen (step (stateOf 0x00 0x11 0x00 0xFD 0x0200 0x24
      [(0x0010, 0x80), (0x0200, 0xD6), (0x0201, 0xFF)])) =
    some ⟨0x00, 0x11, 0x00, 0xFD, 0x0202, 0x24, 6, [(0x0010, 0x7F)]⟩ := by decide

/-- INY: vector T7.9. -/
theorem test_iny_T7_9 :
    seen (step (stateOf 0x00 0x00 0xFF 0xFD 0x0200 0x24
      [(0x0200, 0xC8)])) =
    some ⟨0x00, 0x00, 0x00, 0xFD, 0x0201, 0x26, 2, []⟩ := by decide

/-- DEX: vector T7.11. -/
theorem test_dex_T7_11 :
    seen (step (stateOf 0x00 0x01 0x00 0xFD 0x0200 0x24
      [(0x0200, 0xCA)])) =
    some ⟨0x00, 0x00, 0x00, 0xFD, 0x0201, 0x26, 2, []⟩ := by decide

/-- AXS: vector T12.22. -/
theorem test_axs_T12_22 :
    seen (step (stateOf 0xFF 0x0F 0x00 0xFD 0x0200 0x24
      [(0x0200, 0xCB), (0x0201, 0x01)])) =
    some ⟨0xFF, 0x0F, 0x00, 0xFD, 0x0202, 0x24, 2, []⟩ := by decide

/-- BNE: vector T8.13. -/
theorem test_bne_T8_13 :
    seen (step (stateOf 0x00 0x00 0x00 0xFD 0x0205 0x24
      [(0x0205, 0xD0), (0x0206, 0xFB)])) =
    some ⟨0x00, 0x00, 0x00, 0xFD, 0x0202, 0x24, 3, []⟩ := by decide

/-- BNE: vector T8.20. -/
theorem test_bne_T8_20 :
    seen (step (stateOf 0x00 0x00 0x00 0xFD 0x0200 0x24
      [(0x0200, 0xD0), (0x0201, 0x00)])) =
    some ⟨0x00, 0x00, 0x00, 0xFD, 0x0202, 0x24, 3, []⟩ := by decide

/-- CLD: vector T11.12. -/
theorem test_cld_T11_12 :
    seen (step (stateOf 0x00 0x00 0x00 0xFD 0x0200 0x2C
      [(0x0200, 0xD8)])) =
    some ⟨0x00, 0x00, 0x00, 0xFD, 0x0201, 0x24, 2, []⟩ := by decide

/-- CPX: vector T6.7. -/
theorem test_cpx_T6_7 :
    seen (step (stateOf 0x00 0x40 0x00 0xFD 0x0200 0x24
      [(0x0010, 0x3F), (0x0200, 0xE4), (0x0201, 0x10)])) =
    some ⟨0x00, 0x40, 0x00, 0xFD, 0x0202, 0x25, 3, []⟩ := by decide

/-- SBC: vector T3.11. -/
theorem test_sbc_T3_11 :
    seen (step (stateOf 0x50 0x00 0x00 0xFD 0x0200 0x25
      [(0x0200, 0xE9), (0x0201, 0xF0)])) =
    some ⟨0x60, 0x00, 0x00, 0xFD, 0x0202, 0x24, 2, []⟩ := by decide

/-- SBC: vector T12.38. -/
theorem test_sbc_T12_38 :
    seen (step (stateOf 0x80 0x00 0x00 0xFD 0x0200 0x25
      [(0x0200, 0xEB), (0x0201, 0x01)])) =
    some ⟨0x7F, 0x00, 0x00, 0xFD, 0x0202, 0x65, 2, []⟩ := by decide

/-- ISC: vector T12.9. -/
theorem test_isc_T12_9 :
    seen (step (stateOf 0x20 0x00 0x00 0xFD 0x0200 0x25
      [(0x0010, 0x0F), (0x0200, 0xE7), (0x0201, 0x10)])) =
    some ⟨0x10, 0x00, 0x00, 0xFD, 0x0202, 0x25, 5, [(0x0010, 0x10)]⟩ := by decide

/-- ISC: vector T12.10. -/
theorem test_isc_T12_10 :
    seen (step (stateOf 0x00 0x00 0x00 0xFD 0x0200 0x25
      [(0x0010, 0xFF), (0x0200, 0xE7), (0x0201, 0x10)])) =
    some ⟨0x00, 0x00, 0x00, 0xFD, 0x0202, 0x27, 5, [(0x0010, 0x00)]⟩ := by decide

/-- INC: vector T7.1. -/
theorem test_inc_T7_1 :
    seen (step (stateOf 0x00 0x00 0x00 0xFD 0x0200 0x24
      [(0x0010, 0xFF), (0x0200, 0xE6), (0x0201, 0x10)])) =
    some ⟨0x00, 0x00, 0x00, 0xFD, 0x0202, 0x26, 5, [(0x0010, 0x00)]⟩ := by decide

/-- INC: vector T7.3. -/
theorem test_inc_T7_3 :
    seen (step (stateOf 0x00 0x01 0x00 0xFD 0x0200 0x24
      [(0x2100, 0x00), (0x0200, 0xFE), (0x0201, 0xFF), (0x0202, 0x20)])) =
    some ⟨0x00, 0x01, 0x00, 0xFD, 0x0203, 0x24, 7, [(0x2100, 0x01)]⟩ := by decide

/-- INX: vector T7.8. -/
theorem test_inx_T7_8 :
    seen (step (stateOf 0x00 0x7F 0x00 0xFD 0x0200 0x24
      [(0x0200, 0xE8)])) =
    some ⟨0x00, 0x80, 0x00, 0xFD, 0x0201, 0xA4, 2, []⟩ := by decide

/-- BEQ: vector T8.15. -/
theorem test_beq_T8_15 :
    seen (step (stateOf 0x00 0x00 0x00 0xFD 0x02FB 0x26
      [(0x02FB, 0xF0), (0x02FC, 0x03)])) =
    some ⟨0x00, 0x00, 0x00, 0xFD, 0x0300, 0x26, 4, []⟩ := by decide

/-- BEQ: vector T8.19. -/
theorem test_beq_T8_19 :
    seen (step (stateOf 0x00 0x00 0x00 0xFD 0xFFFC 0x26
      [(0xFFFC, 0xF0), (0xFFFD, 0x05)])) =
    some ⟨0x00, 0x00, 0x00, 0xFD, 0x0003, 0x26, 4, []⟩ := by decide

/-- SED: vector T11.13. -/
theorem test_sed_T11_13 :
    seen (step (stateOf 0x00 0x00 0x00 0xFD 0x0200 0x24
      [(0x0200, 0xF8)])) =
    some ⟨0x00, 0x00, 0x00, 0xFD, 0x0201, 0x2C, 2, []⟩ := by decide

/-! ### The host's calls -/

/-- A state past its reset, in no special place. -/
def sample : State := stateOf 0x81 0x02 0x03 0xFD 0x0200 0x25 [(0x0200, 0xAD), (0x0201, 0x34), (0x0202, 0x12), (0x1234, 0x7F)]

/-- The first step after reset runs the instruction placed by `withFetchWord`: LDA #$42, with calls pending or not. -/
theorem test_withFetchWord_lda :
    seen (step (State.reset.withFetchWord 16 0x42A9)) =
      some ⟨0x42, 0x00, 0x00, 0xFD, 0x0002, 0x24, 2, []⟩ ∧
    seen (step ({ State.reset with calls := [.nmi], live := false }.withFetchWord 16 0x42A9)) =
      some ⟨0x42, 0x00, 0x00, 0xFD, 0x0002, 0x24, 2, []⟩ := by decide

/-- The same with a three-byte instruction given by its opcode alone: JMP $0000. -/
theorem test_withFetchWord_jmp :
    seen (step (State.reset.withFetchWord 8 0x4C)) = some ⟨0x00, 0x00, 0x00, 0xFD, 0x0000, 0x24, 3, []⟩ := by decide

/-- The same while the host has settled answers for reads to come: the instruction placed is the one that runs. -/
theorem test_withFetchWord_answers :
    seen (step ({ State.reset with answers := [some 0xEA, some 0xEA] }.withFetchWord 16 0x42A9)) =
      some ⟨0x42, 0x00, 0x00, 0xFD, 0x0002, 0x24, 2, []⟩ := by decide

/-- The Bus is the read oracle (20_memory.md R52): LDA $1234 gets what the host answers to its fourth read and not
what the flat RAM holds there; with nothing settled it gets the RAM's byte. -/
theorem test_bus_answer_overrides_ram :
    seen (step { sample with answers := [none, none, none, some 0x55] }) =
      some ⟨0x55, 0x02, 0x03, 0xFD, 0x0203, 0x25, 4, []⟩ ∧
    seen (step sample) = some ⟨0x7F, 0x02, 0x03, 0xFD, 0x0203, 0x25, 4, []⟩ := by decide

/-- "two reads of one address may differ", and a read "need not return what was last written" (R52): SLO $10 reads
0x40, writes 0x80, reads 0x01 back; `A` is 0x81 | 0x01, and the write landed. -/
theorem test_bus_reread_differs :
    seen (exec (.sloZp 0x10) { sample with answers := [none, none, some 0x40, some 0x01] }) =
      some ⟨0x81, 0x02, 0x03, 0xFD, 0x0202, 0xA4, 5, [(0x0010, 0x80)]⟩ := by decide

/-- The opcode and operand reads are Bus reads too: the host answers NOP where the RAM holds LDA. -/
theorem test_bus_answers_fetch :
    seen (step { sample with calls := [.busAnswers [some 0xEA]] }) =
      some ⟨0x81, 0x02, 0x03, 0xFD, 0x0200, 0x25, 0, []⟩ ∧
    seen (step { sample with answers := [some 0xEA] }) = some ⟨0x81, 0x02, 0x03, 0xFD, 0x0201, 0x25, 2, []⟩ := by decide

/-- `triggerIRQ()` with `P.I` set all the same (R273, R275; R273's stack bytes and vector). -/
theorem test_irq : seen (hostCall .irq (stateOf 0x01 0x02 0x03 0xFD 0x1234 0x24 [(0xFFFE, 0x00), (0xFFFF, 0x90)])) =
    some ⟨0x01, 0x02, 0x03, 0xFA, 0x9000, 0x24, 7, [(0x01FD, 0x12), (0x01FC, 0x34), (0x01FB, 0x34)]⟩ := by decide

/-- `triggerNMI()` goes through 0xFFFA (R274); the stack wraps in page 1 (10_state.md R22). -/
theorem test_nmi : seen (hostCall .nmi (stateOf 0x01 0x02 0x03 0x01 0x1234 0x20 [(0xFFFA, 0x10), (0xFFFB, 0x80)])) =
    some ⟨0x01, 0x02, 0x03, 0xFE, 0x8010, 0x24, 7, [(0x0101, 0x12), (0x0100, 0x34), (0x01FF, 0x30)]⟩ := by decide

/-- `reset()` (R300's example: the vector bytes 0x00 0x80 give PC = 0x8000). -/
theorem test_reset :
    seen (hostCall .reset (stateOf 0x01 0x02 0x03 0x01 0x1234 0xEF [(0xFFFC, 0x00), (0xFFFD, 0x80)])) =
    some ⟨0x00, 0x00, 0x00, 0xFD, 0x8000, 0x24, 0, []⟩ := by decide

/-- Before the first `reset()` a `step()` is refused by name (10_state.md R43); after it, it runs. -/
theorem test_before_reset :
    hostCall .step { State.reset with live := false } = .refused .beforeReset ∧
    hostCall .nmi { State.reset with live := false } = .refused .beforeReset ∧
    seen (hostCall .reset { State.reset with live := false }) =
      some ⟨0x00, 0x00, 0x00, 0xFD, 0x0000, 0x24, 0, []⟩ := ⟨rfl, rfl, by decide⟩

/-- What `step()` returns: the cycles of LDA $1234 (R100, R104). -/
theorem test_stepReturns : stepReturns sample = some 4 := by decide

/-- The snapshot shows the flags byte with bit 5 = 1 and bit 4 = 0 (10_state.md R30, R44). -/
theorem test_snapshot : (snapshot (stateOf 0x01 0x02 0x03 0xFD 0x1234 0xFF [])).flags = 0xEF := by decide

/-- Writing what an unlisted byte reads as removes the entry. -/
theorem test_memory_canonical : memWrite [(5, 1)] 5 0 = [] ∧ memWrite [(5, 1)] 3 2 = [(3, 2), (5, 1)] ∧
    memRead (memWrite [(5, 1)] 5 9) 5 = 9 := by decide

/-! ### Witnesses: the hypotheses of each statement can be met -/

/-- The sample state's memory is in canonical form. -/
theorem witness_wf : Memory.wf sample.mem := by decide

/-- A one-byte sequence for a one-byte instruction, a three-byte one for a three-byte instruction. -/
theorem witness_EveryByteSequenceDecodes :
    (decode 0xEA 0 0).row.mode.operandBytes ≤ ([] : List Byte).length ∧
    (decode 0xAD 0 0).row.mode.operandBytes ≤ ([0x34, 0x12] : List Byte).length := by decide

theorem witness_StepRunsDecodedInstruction :
    sample.live = true ∧ (Instr.ldaAbs 0x1234).wellFormed = true ∧
    decodeBytes [sample.busByte 0 sample.pc, sample.busByte 1 (sample.pc + 1), sample.busByte 2 (sample.pc + 2)] =
      .ok (.ldaAbs 0x1234, []) ∧
    sample.calls = [] ∧ ({ sample with calls := [.step, .nmi] } : State).calls = .step :: [.nmi] := by
  refine ⟨rfl, rfl, rfl, rfl, rfl⟩

theorem witness_EveryEntryPointCompletes : State.reset.live = true ∧ sample.live = true := by decide

theorem witness_BeforeResetRefused :
    ({ sample with live := false } : State).live = false ∧
    (∀ c ∈ ([.step, .irq, .nmi] : List HostCall), ∃ r, hostCall c { sample with live := false } = .refused r) ∧
    (∀ c ∈ ([.step, .irq, .nmi, .reset, .init, .busSet 0x0200 0xEA, .busAnswers [some 0xEA, none]] : List HostCall),
      ∃ t, hostCall c sample = .next t) := by
  refine ⟨rfl, ?_, ?_⟩ <;> simp only [List.forall_mem_cons]
  · exact ⟨⟨_, rfl⟩, ⟨_, rfl⟩, ⟨_, rfl⟩, fun _ h => nomatch h⟩
  · exact ⟨⟨_, rfl⟩, ⟨_, rfl⟩, ⟨_, rfl⟩, ⟨_, rfl⟩, ⟨_, rfl⟩, ⟨_, rfl⟩, ⟨_, rfl⟩, fun _ h => nomatch h⟩

theorem witness_FetchReadsComeFirst :
    (∃ t, exec (.sloIzy 0x10) sample = .next t ∧ t.trace.length = 7) ∧
    (∃ t, exec .nop sample = .next t ∧ t.trace.length = 1) := ⟨⟨_, rfl, rfl⟩, ⟨_, rfl, rfl⟩⟩

/-- A taken branch to another page and one to the same page, one not taken, and an index that crosses a page
(sample: X = 2, C = 1, Z = 0). -/
theorem witness_CycleAccounting :
    (∃ t, exec (.bcs 0x80) sample = .next t ∧ t.cycles = 4) ∧ (∃ t, exec (.bcs 0x10) sample = .next t ∧ t.cycles = 3) ∧
    (∃ t, exec (.beq 0x10) sample = .next t ∧ t.cycles = 2) ∧
    (∃ t, exec (.ldaAbx 0x12FE) sample = .next t ∧ t.cycles = 5) ∧
    (∃ t, exec (.ldaAbx 0x12FD) sample = .next t ∧ t.cycles = 4) ∧
    (∃ t, exec (.sloIzy 0x10) sample = .next t ∧ t.cycles = 8) :=
  ⟨⟨_, rfl, rfl⟩, ⟨_, rfl, rfl⟩, ⟨_, rfl, rfl⟩, ⟨_, rfl, rfl⟩, ⟨_, rfl, rfl⟩, ⟨_, rfl, rfl⟩⟩

/-- Each clause of EffectiveAddressOfMode at a boundary: the index wraps in the zero page, mod 65536, and the
pointers' high bytes come from 0x0000 and 0x3000 (R105, R110, R111, R112, R113, R115). -/
theorem witness_EffectiveAddressOfMode :
    eaOf (.ldaZpx 0xFF) sample = 0x0001 ∧ eaOf (.ldxZpy 0xFF) sample = 0x0002 ∧
    eaOf (.ldaAbx 0xFFFF) sample = 0x0001 ∧ eaOf (.ldaAby 0xFFFF) sample = 0x0002 ∧
    eaOf (.ldaIzx 0xFD) { sample with mem := memOf [(0x00FF, 0x34), (0x0000, 0x12)] } = 0x1234 ∧
    eaOf (.ldaIzy 0xFF) { sample with mem := memOf [(0x00FF, 0x34), (0x0000, 0x12)] } = 0x1237 ∧
    eaOf (.jmpInd 0x30FF) { sample with mem := memOf [(0x30FF, 0x80), (0x3000, 0x40), (0x3100, 0x50)] } = 0x4080 ∧
    eaOf (.bne 0xFB) { sample with pc := 0x0205 } = 0x0202 ∧ eaOf (.bne 0x80) { sample with pc := 0x0000 } = 0xFF82 ∧
    eaOf (.ldaImm 0x10) sample = 0x0201 ∧ eaOf (.ldaZp 0xFF) sample = 0x00FF ∧ eaOf (.ldaAbs 0x1234) sample = 0x1234 := by
  decide

/-- Each clause of OneByteOperandAddresses at a boundary (R113 to R115: offsets 0x7F and 0x80, an index that wraps). -/
theorem witness_OneByteOperandAddresses :
    ((Instr.ldaZp 0xFF).row.mode = .zp ∧ ∃ t, exec (.ldaZp 0xFF) sample = .next t ∧ t.ea = 0x00FF) ∧
    ((Instr.ldaZpx 0xFF).row.mode = .zpx ∧ ∃ t, exec (.ldaZpx 0xFF) sample = .next t ∧ t.ea = 0x0001) ∧
    ((Instr.beq 0x7F).row.mode = .rel ∧ ∃ t, exec (.beq 0x7F) sample = .next t ∧ t.ea = 0x0281) ∧
    (∃ t, exec (.beq 0x80) sample = .next t ∧ t.ea = 0x0182) ∧ Instr.beq 0x80 ∈ branchForms 0x80 :=
  ⟨⟨rfl, _, rfl, rfl⟩, ⟨rfl, _, rfl, rfl⟩, ⟨rfl, _, rfl, rfl⟩, ⟨_, rfl, rfl⟩, by decide⟩

theorem witness_LoadsReadByte :
    (Instr.ldaIzy 0x80 ∈ ldaForms 0x80 0x1234 ∧
      (⟨0x7F, 0x02, 0x03, 0xFD⟩ : Regs) = { sample.regs with a := operandOf (.ldaAbs 0x1234) sample }) ∧
    (Instr.ldxZpy 0x80 ∈ ldxForms 0x80 0x1234 ∧
      (⟨0x81, 0x80, 0x03, 0xFD⟩ : Regs) = { sample.regs with x := operandOf (.ldxImm 0x80) sample }) ∧
    (Instr.ldyAbx 0x1234 ∈ ldyForms 0x80 0x1234 ∧
      (⟨0x81, 0x02, 0x00, 0xFD⟩ : Regs) = { sample.regs with y := operandOf (.ldyZp 0x80) sample }) := by decide

theorem witness_StoresWriteRegister : Memory.wf sample.mem ∧
    (Instr.staIzy 0x80 ∈ staForms 0x80 0x1234 ∧ (0x81 : Byte) = sample.a) ∧
    (Instr.stxZpy 0x80 ∈ stxForms 0x80 0x1234 ∧ (0x02 : Byte) = sample.x) ∧
    (Instr.styAbs 0x1234 ∈ styForms 0x80 0x1234 ∧ (0x03 : Byte) = sample.y) := by decide

theorem witness_AdcAdds : Instr.adcImm 0x7F ∈ adcForms 0x7F 0x1234 ∧ Instr.adcAbx 0x1234 ∈ adcForms 0x7F 0x1234 := by
  decide

theorem witness_SbcSubtracts : Instr.sbcImmEB 0x7F ∈ sbcForms 0x7F 0x1234 ∧
    Instr.sbcIzx 0x7F ∈ sbcForms 0x7F 0x1234 := by decide

theorem witness_SbcUndoesAdc :
    let s := stateOf 0x7F 0x00 0x00 0xFD 0x0200 0x2C []
    s.p.c = false ∧ ∃ t u, exec (.adcImm 0x01) s = .next t ∧
      exec (.sbcImm 0x01) { t with p := { t.p with c := true } } = .next u := ⟨rfl, _, _, rfl, rfl⟩

theorem witness_DecimalFlagInert :
    (Instr.adcImm 0x99 ∈ adcForms 0x99 0x1234 ++ sbcForms 0x99 0x1234 ++ rraForms 0x99 0x1234 ++ iscForms 0x99 0x1234 ∧
      ∃ t, exec (.adcImm 0x99) sample = .next t) ∧
    (Instr.iscAbs 0x1234 ∈ adcForms 0x99 0x1234 ++ sbcForms 0x99 0x1234 ++ rraForms 0x99 0x1234 ++ iscForms 0x99 0x1234 ∧
      ∃ t, exec (.iscAbs 0x1234) sample = .next t) := ⟨⟨by decide, _, rfl⟩, ⟨by decide, _, rfl⟩⟩

/-- `A` = 0x81 and memory 0x7F (sample), shifted (R161, R162: 0x81 to 0x02 with C; 0x7F to 0x3F with C). -/
theorem witness_ShiftsMoveBits : Memory.wf sample.mem ∧
    (Instr.aslAcc ∈ aslForms 0x10 0x1234 ∧ (0x02 : Byte) = BitVec.ofNat 8 (2 * sample.a.toNat) ∧
      true = decide (128 ≤ sample.a.toNat)) ∧
    (Instr.lsrAbs 0x1234 ∈ lsrForms 0x10 0x1234 ∧
      (0x3F : Byte) = BitVec.ofNat 8 ((operandOf (.lsrAbs 0x1234) sample).toNat / 2) ∧
      true = decide ((operandOf (.lsrAbs 0x1234) sample).toNat % 2 = 1)) := by decide

/-- The same rotated with the carry set (R163, R164: 0x81 to 0x03 with C; 0x7F to 0xBF with C). -/
theorem witness_RotatesMoveBits : Memory.wf sample.mem ∧
    (Instr.rolAcc ∈ rolForms 0x10 0x1234 ∧ (0x03 : Byte) = BitVec.ofNat 8 (2 * sample.a.toNat + sample.p.c.toNat) ∧
      true = decide (128 ≤ sample.a.toNat)) ∧
    (Instr.rorAbs 0x1234 ∈ rorForms 0x10 0x1234 ∧
      (0xBF : Byte) = BitVec.ofNat 8 ((operandOf (.rorAbs 0x1234) sample).toNat / 2 + 128 * sample.p.c.toNat) ∧
      true = decide ((operandOf (.rorAbs 0x1234) sample).toNat % 2 = 1)) := by decide

theorem witness_LogicCombinesA :
    (Instr.andImm 0x0F ∈ andForms 0x0F 0x1234 ∧ (0x01 : Byte) = sample.a &&& operandOf (.andImm 0x0F) sample) ∧
    (Instr.oraAbs 0x1234 ∈ oraForms 0x0F 0x1234 ∧ (0xFF : Byte) = sample.a ||| operandOf (.oraAbs 0x1234) sample) ∧
    (Instr.eorImm 0x0F ∈ eorForms 0x0F 0x1234 ∧ (0x8E : Byte) = sample.a ^^^ operandOf (.eorImm 0x0F) sample) := by
  decide

theorem witness_BitTestsMemory : Instr.bitZp 0x10 ∈ bitForms 0x10 0x1234 ∧ Instr.bitAbs 0x1234 ∈ bitForms 0x10 0x1234 := by
  decide

theorem witness_ComparesSetFlags :
    (Instr.cmpIzy 0x10 ∈ cmpForms 0x10 0x1234 ∧ (0x81 : Byte) = sample.a) ∧
    (Instr.cpxImm 0x10 ∈ cpxForms 0x10 0x1234 ∧ (0x02 : Byte) = sample.x) ∧
    (Instr.cpyAbs 0x1234 ∈ cpyForms 0x10 0x1234 ∧ (0x03 : Byte) = sample.y) := by decide

theorem witness_CompareOperation : Memory.wf sample.mem ∧
    (Instr.cmpImm 0x10 ∈ cmpForms 0x10 0x1234 ++ dcpForms 0x10 0x1234 ∧ (0x81 : Byte) = sample.a ∧
      Instr.cmpImm 0x10 ∉ dcpForms 0x10 0x1234) ∧
    (Instr.dcpAbs 0x1234 ∈ cmpForms 0x10 0x1234 ++ dcpForms 0x10 0x1234 ∧ Instr.dcpAbs 0x1234 ∈ dcpForms 0x10 0x1234) ∧
    (Instr.cpxZp 0x10 ∈ cpxForms 0x10 0x1234 ∧ (0x02 : Byte) = sample.x) ∧
    (Instr.cpyImm 0x10 ∈ cpyForms 0x10 0x1234 ∧ (0x03 : Byte) = sample.y) := by decide

theorem witness_IncDecMemory : Memory.wf sample.mem ∧
    (Instr.incAbs 0x1234 ∈ incForms 0x10 0x1234 ∧
      (0x80 : Byte) = BitVec.ofNat 8 ((operandOf (.incAbs 0x1234) sample).toNat + 1)) ∧
    (Instr.decZp 0x10 ∈ decForms 0x10 0x1234 ∧
      (0xFF : Byte) = BitVec.ofNat 8 ((operandOf (.decZp 0x10) sample).toNat + 255)) := by decide

/-- Taken and not taken, same page and other page, branch by branch (R191 to R198: sample has N V Z C = 0 0 0 1). -/
theorem witness_BranchesTestFlag : sample.p.n = false ∧ sample.p.v = false ∧ sample.p.z = false ∧ sample.p.c = true ∧
    ¬ sample.p.n = true ∧ page (sample.pc + 2 + sext16 0x10) = page (sample.pc + 2) ∧
    ¬ page (sample.pc + 2 + sext16 0x80) = page (sample.pc + 2) := by decide

theorem witness_RtsUndoesJsr :
    let s := stateOf 0x00 0x00 0x00 0x00 0x0200 0x24 []
    Memory.wf s.mem ∧ s.answers = [] ∧ ∃ t u, exec (.jsrAbs 0x1234) s = .next t ∧ exec .rts t = .next u :=
  ⟨by decide, rfl, _, _, rfl, rfl⟩

theorem witness_PlpUndoesPhp :
    Memory.wf sample.mem ∧ sample.answers = [] ∧ ∃ t u, exec .php sample = .next t ∧
      exec .plp { t with p := unpackP 0xFF } = .next u := ⟨by decide, rfl, _, _, rfl, rfl⟩

theorem witness_RtiUndoesEntry :
    Memory.wf sample.mem ∧ sample.answers = [] ∧ (∃ t u, exec .rti t = .next u ∧ exec .brk sample = .next t) ∧
    (∃ t u, exec .rti t = .next u ∧ t = triggerIRQ sample) ∧ (∃ t u, exec .rti t = .next u ∧ t = triggerNMI sample) :=
  ⟨by decide, rfl, ⟨_, _, rfl, rfl⟩, ⟨_, _, rfl, rfl⟩, ⟨_, _, rfl, rfl⟩⟩

theorem witness_NoOpsDoNothing :
    ∀ i ∈ ([.nop, .nopAbxFC 0x1234, .ancImm0B 0x10, .lasAby 0x1234, .kil02, .kilF2] : List Instr),
      i ∈ nopForms 0x10 0x1234 ++ placeholderForms 0x10 0x1234 ++ kilForms := by decide

/-- With the byte written read back (SLO, RLA), and with a Bus that answers 0x0F instead (SRE). -/
theorem witness_SloRlaSreCombine : Memory.wf sample.mem ∧
    (Instr.sloAbs 0x1234 ∈ sloForms 0x10 0x1234 ∧
      (0xFE : Byte) = BitVec.ofNat 8 (2 * (operandOf (.sloAbs 0x1234) sample).toNat) ∧
      (0xFF : Byte) = sample.a ||| rereadOf (.sloAbs 0x1234) sample 0xFE ∧ false = decide (128 ≤ (operandOf (.sloAbs 0x1234) sample).toNat)) ∧
    (Instr.rlaAbs 0x1234 ∈ rlaForms 0x10 0x1234 ∧
      (0xFF : Byte) = BitVec.ofNat 8 (2 * (operandOf (.rlaAbs 0x1234) sample).toNat + sample.p.c.toNat) ∧
      (0x81 : Byte) = sample.a &&& rereadOf (.rlaAbs 0x1234) sample 0xFF ∧ false = decide (128 ≤ (operandOf (.rlaAbs 0x1234) sample).toNat)) ∧
    (Instr.sreAbs 0x1234 ∈ sreForms 0x10 0x1234 ∧
      (0x3F : Byte) = BitVec.ofNat 8 ((operandOf (.sreAbs 0x1234) sample).toNat / 2) ∧
      (0x8E : Byte) = sample.a ^^^ rereadOf (.sreAbs 0x1234) { sample with answers := [none, none, none, none, some 0x0F] } 0x3F ∧ true = decide ((operandOf (.sreAbs 0x1234) sample).toNat % 2 = 1)) := by decide

theorem witness_RraRotatesAndAdds : Memory.wf sample.mem ∧ Instr.rraIzx 0x10 ∈ rraForms 0x10 0x1234 := by decide

theorem witness_DcpIscCombine : Memory.wf sample.mem ∧ Instr.dcpIzy 0x10 ∈ dcpForms 0x10 0x1234 ∧
    Instr.iscAby 0x1234 ∈ iscForms 0x10 0x1234 := by decide

theorem witness_LaxSaxMove : Memory.wf sample.mem ∧ Instr.laxImm 0x10 ∈ laxForms 0x10 0x1234 ∧
    Instr.saxZpy 0x10 ∈ saxForms 0x10 0x1234 := by decide

/-- The memory premise of the stack statements (JsrPushesReturnAddress, PhaPhpPush, BrkTakesException) and of
InterruptEntry, with the stack pointer where the push wraps (10_state.md R22). -/
theorem witness_InterruptEntry :
    let s := stateOf 0x00 0x00 0x00 0x01 0x0200 0x20 [(0x0100, 0x11), (0xFFFE, 0x90)]
    s.live = true ∧ Memory.wf s.mem ∧ stackAddr s.sp = 0x0101 ∧ stackAddr (s.sp - 2) = 0x01FF := by decide

theorem witness_HostCallsInOrder :
    ({ sample with calls := [.irq, .step] } : State).calls = .irq :: [.step] ∧ Memory.wf sample.mem := by decide

theorem witness_StepKeepsInvariant : Inv sample ∧ (∃ t, step sample = .next t) ∧
    ∃ t, step { sample with calls := [.busSet 0xFFFF 0x01] } = .next t :=
  ⟨⟨by decide, by decide⟩, ⟨_, rfl⟩, ⟨_, rfl⟩⟩

/-- Each call completes, the step with an answer of the host's among its reads; STA writes what is read last. -/
theorem witness_BusAnswersReadsAndTakesWrites : Memory.wf sample.mem ∧
    (∀ c ∈ ([.step, .irq, .nmi, .reset, .init] : List HostCall),
      ∃ t, hostCall c { sample with answers := [none, some 0x35] } = .next t) ∧
    ∃ t, exec (.staAbs 0x1234) sample = .next t ∧ lastWritten t.trace 0x1234 0x7F = 0x81 := by
  refine ⟨by decide, ?_, _, rfl, by decide⟩
  simp only [List.forall_mem_cons]
  exact ⟨⟨_, rfl⟩, ⟨_, rfl⟩, ⟨_, rfl⟩, ⟨_, rfl⟩, ⟨_, rfl⟩, fun _ h => nomatch h⟩

/-- For each clause an instruction that changes the flag. -/
theorem witness_FlagsWrittenOnlyBy :
    (∃ t, exec .sed sample = .next t ∧ t.p.d ≠ sample.p.d) ∧ (∃ t, exec .cli sample = .next t ∧ t.p.i ≠ sample.p.i) ∧
    (∃ t, exec (.adcImm 0x80) sample = .next t ∧ t.p.v ≠ sample.p.v) ∧
    (∃ t, exec .clc sample = .next t ∧ t.p.c ≠ sample.p.c) ∧
    (∃ t, exec (.ldaImm 0x80) sample = .next t ∧ t.p.n ≠ sample.p.n) ∧
    (∃ t, exec (.ldaImm 0x00) sample = .next t ∧ t.p.z ≠ sample.p.z) :=
  ⟨⟨_, rfl, by decide⟩, ⟨_, rfl, by decide⟩, ⟨_, rfl, by decide⟩, ⟨_, rfl, by decide⟩, ⟨_, rfl, by decide⟩,
    ⟨_, rfl, by decide⟩⟩

theorem witness_StackAndProgramCounterMovers :
    (∃ t, exec .pha sample = .next t ∧ t.sp ≠ sample.sp) ∧
    (∃ t, exec (.jmpAbs 0x1234) sample = .next t ∧ t.pc ≠ sample.pc + BitVec.ofNat 16 (Instr.jmpAbs 0x1234).length) :=
  ⟨⟨_, rfl, by decide⟩, ⟨_, rfl, by decide⟩⟩

theorem witness_TimingIsOutputOnly : ∃ t, exec (.bcs 0x80) sample = .next t ∧ t.cycles = 4 := ⟨_, rfl, rfl⟩

/-- A store into the opcode and one into the second operand byte of the next instruction. -/
theorem witness_FetchSeesStore : Memory.wf sample.mem ∧
    (∃ t, exec (.staAbs 0x0203) sample = .next t ∧ (∀ k < 3, t.answers[k]?.join = none) ∧
      lastWritten t.trace t.pc (sample.byteAt t.pc) = 0x81) ∧
    (∃ t, exec (.incAbs 0x0205) sample = .next t ∧ (∀ k < 3, t.answers[k]?.join = none) ∧
      lastWritten t.trace (t.pc + 2) (sample.byteAt (t.pc + 2)) = 0x01) := by
  exact ⟨by decide, ⟨_, rfl, by decide, by decide⟩, ⟨_, rfl, by decide, by decide⟩⟩

/-- A state's snapshot shows a changed register and does not show a changed `EA`. -/
theorem witness_SnapshotShowsState : snapshot { sample with y := 0x04 } ≠ snapshot sample ∧
    snapshot { sample with ea := 0xFFFF } = snapshot sample := by decide

end Sys2Proof.Tests
end

/-! The diagnostic snapshot (10_state.md R44): its flags byte determines the six flags, so it shows the whole of what
it lists. -/

namespace Sys2Proof.Machine

/-- `PackP()` is the pushed byte without the break marker, which `UnpackP` ignores (R32). -/
@[simp] theorem unpackP_packP (p : Flags) : unpackP (packP p) = p := by
  have hpushed : pushedP false p = packP p := by simp [pushedP, flagAt]
  rw [← hpushed, unpackP_pushedP]

/-- No two settings of the six flags share a flags byte. -/
@[simp] theorem packP_inj {p q : Flags} : packP p = packP q ↔ p = q :=
  (Function.LeftInverse.injective unpackP_packP).eq_iff

/-- The snapshot lists the registers one by one, where `regs` holds them as one value. -/
theorem State.regs_eq_iff (s t : State) :
    s.regs = t.regs ↔ s.a = t.a ∧ s.x = t.x ∧ s.y = t.y ∧ s.sp = t.sp := by
  simp [State.regs]

/-- No listed field is lost in the snapshot: the flags are the only one it encodes, and `packP` is injective. -/
theorem snapshot_eq_iff (s t : State) :
    snapshot s = snapshot t ↔ s.regs = t.regs ∧ s.pc = t.pc ∧ s.p = t.p ∧ s.cycles = t.cycles ∧
      s.lastOpcode = t.lastOpcode ∧ s.mode = t.mode := by
  simp only [snapshot, Snapshot.mk.injEq, packP_inj, State.regs_eq_iff, and_assoc]

/-- Settles O48: the snapshot is R44's list by definition, and equal flags bytes mean equal flags. -/
theorem snapshotShowsState : Obligations.SnapshotShowsState :=
  ⟨fun _ => rfl, snapshot_eq_iff, fun _ _ => rfl⟩

end Sys2Proof.Machine

/-! The modes with one operand byte that is an address or an offset (40_step_and_addressing.md R113 to R115). -/

namespace Sys2Proof.Machine

/-- A resolver that indexes no base grants no page-cross bonus (R102). -/
theorem crossBonus_of_indexBase_none {r : Row} {s : State} (h : indexBase r.mode r.operand s = none) :
    crossBonus r s = 0 := by
  simp [crossBonus, indexCrosses, h]

/-- A sign-extended offset moves an address by its signed value, mod 65536 (R8, R113). -/
theorem toNat_add_sext16 (w : Word) (b : Byte) : ((w + sext16 b).toNat : Int) = (w.toNat + b.toInt) % 65536 := by
  simp only [sext16, BitVec.signExtend, BitVec.toNat_add, BitVec.toNat_ofInt]
  omega

/-- The effective address of a branch (R113). -/
theorem eaOf_rel_toNat {i : Instr} (h : i.row.mode = .rel) (s : State) :
    ((eaOf i s).toNat : Int) = (s.pc.toNat + 2 + i.row.operand.lo.toInt) % 65536 := by
  have hea : eaOf i s = s.pc + 2 + sext16 i.row.operand.lo := by
    simp only [eaOf, effectiveAddress, h, fetchOpcode_pc, BitVec.add_assoc s.pc 1 1]
    rfl
  have htwo : (2 : Word).toNat = 2 := rfl
  rw [hea, toNat_add_sext16, BitVec.toNat_add, htwo]
  omega

/-- Zeropage, ZeropageX and Relative have one operand byte and read nothing but it; none of them indexes a base, so
none can grant the bonus (R102, R113 to R115). -/
theorem oneByteOperand_fetch {i : Instr} (h : i.row.mode = .zp ∨ i.row.mode = .zpx ∨ i.row.mode = .rel) (s : State) :
    i.length = 2 ∧ fetchReads i s = [.read s.pc i.row.opcode, .read (s.pc + 1) i.row.operand.lo] ∧
      crossBonus i.row (fetchOpcode i.row s) = 0 := by
  have hbytes : i.row.mode.operandBytes = 1 := by rcases h with h | h | h <;> rw [h] <;> rfl
  have hreads : resolverReads i.row.mode i.row.operand (fetchOpcode i.row s) =
      [.read (s.pc + 1) i.row.operand.lo] := by rcases h with h | h | h <;> rw [h] <;> rfl
  have hbase : indexBase i.row.mode i.row.operand (fetchOpcode i.row s) = none := by
    rcases h with h | h | h <;> rw [h] <;> rfl
  exact ⟨by rw [Instr.length, hbytes], by rw [fetchReads, hreads], crossBonus_of_indexBase_none hbase⟩

/-- Only the eight branches use the Relative mode (R113). -/
theorem mode_eq_rel_iff (i : Instr) : i.row.mode = .rel ↔ ∃ b, i ∈ branchForms b := by
  constructor
  · intro h
    cases i
    case bpl b | bmi b | bvc b | bvs b | bcc b | bcs b | bne b | beq b => exact ⟨b, by simp [branchForms]⟩
    all_goals cases h
  · rintro ⟨b, hi⟩
    simp only [branchForms, List.mem_cons, List.not_mem_nil, or_false] at hi
    rcases hi with rfl | rfl | rfl | rfl | rfl | rfl | rfl | rfl <;> rfl

/-- Settles O10: `EA` is `eaOf`, which no handler changes, taken branch or not (`exec_booked`); the rest is said of
each mode's resolver. -/
theorem oneByteOperandAddresses : Obligations.OneByteOperandAddresses := by
  refine ⟨fun i s t ht => ?_, mode_eq_rel_iff⟩
  have hea : t.ea = eaOf i s := (exec_booked i s t ht).ea
  refine ⟨(oneByteOperand_fetch · s), fun h => ?zp, fun h => ?zpx, fun h => ?rel⟩
  case zp => simp only [hea, eaOf, effectiveAddress, h, zext16_toNat]
  case zpx => simp only [hea, eaOf, effectiveAddress, h, zext16_toNat, fetchOpcode_x, BitVec.toNat_add]
  case rel =>
    rw [hea, eaOf_rel_toNat h, BitVec.toInt_eq_toNat_cond]
    split <;> split <;> omega

end Sys2Proof.Machine

/-! The compare operation (44_logic_compare_incdec.md R174) and the four instructions that perform it: CMP, CPX, CPY
on their operand, and DCP on the byte it reads back (R175 to R177, R241). -/

namespace Sys2Proof.Machine

/-- R174 over the naturals: the difference mod 256 sets N and Z, and carry means no borrow. -/
theorem compareFlags_eq (reg m : Byte) (p : Flags) :
    compareFlags reg m p =
      withNZ (BitVec.ofNat 8 (reg.toNat + 256 - m.toNat)) { p with c := decide (m.toNat ≤ reg.toNat) } := by
  rw [compareFlags, byte_sub]
  rfl

/-- The difference of two bytes is zero only when they are equal. -/
theorem compareFlags_z_iff (reg m : Byte) (p : Flags) : (compareFlags reg m p).z = true ↔ reg = m := by
  have hz : (compareFlags reg m p).z = (reg - m == 0) := rfl
  rw [hz, beq_iff_eq]
  exact sub_eq_zero

/-- A compare overwrites C unread: the carry-in is not used (R174). -/
theorem compareFlags_carryIn (reg m : Byte) (p : Flags) (c : Bool) :
    compareFlags reg m { p with c := c } = compareFlags reg m p := rfl

/-- A compare overwrites N and Z unread: what a decrement before it left in them is lost. -/
theorem compareFlags_setNZ (reg m v : Byte) (p : Flags) : compareFlags reg m (setNZ v p) = compareFlags reg m p := rfl

theorem handleDcp_regs (o : Operand) (s : State) : (handleDcp o s).regs = s.regs := rfl

theorem handleDcp_p (o : Operand) (s : State) :
    (handleDcp o s).p = compareFlags s.a (operandByte o (modifyMem (· - 1) s)) s.p :=
  compareFlags_setNZ ..

/-- `i` run from `s` completes, leaves the flags of `Compare(reg, m)`, and keeps the registers. -/
def ComparesWith (i : Instr) (s : State) (reg m : Byte) : Prop :=
  ∃ t, exec i s = .next t ∧ t.regs = s.regs ∧ t.p = compareFlags reg m s.p

/-- It is enough that the handler compares and keeps the registers: the base cost added after it touches neither. -/
theorem ComparesWith.of_handler {i : Instr} {h : Handler} {s : State} {reg m : Byte} (he : exec i s = perform i h s)
    (hregs : (h i.row.operand (resolved i s)).regs = s.regs)
    (hp : (h i.row.operand (resolved i s)).p = compareFlags reg m s.p) : ComparesWith i s reg m :=
  ⟨_, he.trans (perform_eq i h s), hregs, hp⟩

section
variable {b : Byte} {w : Word} {i : Instr}

theorem cmpForms_compare (h : i ∈ cmpForms b w) (s : State) : ComparesWith i s s.a (operandOf i s) :=
  .of_handler (exec_cmpForms b w s i h) rfl (by simp [handleCmp])

theorem cpxForms_compare (h : i ∈ cpxForms b w) (s : State) : ComparesWith i s s.x (operandOf i s) :=
  .of_handler (exec_cpxForms b w s i h) rfl (by simp [handleCpx])

theorem cpyForms_compare (h : i ∈ cpyForms b w) (s : State) : ComparesWith i s s.y (operandOf i s) :=
  .of_handler (exec_cpyForms b w s i h) rfl (by simp [handleCpy])

/-- DCP compares `A` with what it reads of `EA` after the decrement has written there (R236, R241). -/
theorem dcpForms_compare (h : i ∈ dcpForms b w) (s : State) :
    ComparesWith i s s.a (operandByte i.row.operand (modifyMem (· - 1) (resolved i s))) :=
  .of_handler (exec_dcpForms b w s i h) (handleDcp_regs _ _) (handleDcp_p _ _)

end

/-- Settles O26: the operation by R174's arithmetic, the instructions by their handlers; only DCP's byte is not the
operand. -/
theorem compareOperation : Obligations.CompareOperation := by
  refine ⟨fun reg m p => ⟨compareFlags_eq reg m p, compareFlags_z_iff reg m p, compareFlags_carryIn reg m p⟩, ?_⟩
  rintro b w s i reg (⟨hi, rfl⟩ | ⟨hi, rfl⟩ | ⟨hi, rfl⟩)
  · rcases List.mem_append.mp hi with hcmp | hdcp
    · obtain ⟨t, ht, hregs, hp⟩ := cmpForms_compare hcmp s
      exact ⟨t, _, ht, hregs, hp, fun _ => rfl⟩
    · obtain ⟨t, ht, hregs, hp⟩ := dcpForms_compare hdcp s
      exact ⟨t, _, ht, hregs, hp, fun hnot => absurd hdcp hnot⟩
  · obtain ⟨t, ht, hregs, hp⟩ := cpxForms_compare hi s
    exact ⟨t, _, ht, hregs, hp, fun _ => rfl⟩
  · obtain ⟨t, ht, hregs, hp⟩ := cpyForms_compare hi s
    exact ⟨t, _, ht, hregs, hp, fun _ => rfl⟩

end Sys2Proof.Machine

/-! Encoding and decoding (30_encoding.md R80 to R83): the decoder is a matrix lookup, so what it keeps of the opcode
byte and of the operand bytes is read off the sixteen rows of the matrix. -/

namespace Sys2Proof

/-- The operand that a mode takes from the two bytes after the opcode (R81, R83). -/
def Mode.operandFrom (m : Mode) (b1 b2 : Byte) : Operand :=
  match m with
  | .imp | .acc => .none
  | .imm | .zp | .zpx | .zpy | .izx | .izy | .rel => .byte b1
  | .abs | .abx | .aby | .ind => .word (joinBytes b2 b1)

/-- Entry `k` of row `n` has opcode `16 * n + k` (R86, R87). -/
theorem matrixRow_opcodes (b : Byte) (w : Word) (n : Nat) (hn : n < 16) :
    (matrixRow b w n).map (·.row.opcode) = (List.range 16).map fun k => BitVec.ofNat 8 (16 * n + k) := by
  interval_cases n <;> rfl

/-- Every entry carries the operand of its mode. -/
theorem matrixRow_operands (b1 b2 : Byte) (n : Nat) (hn : n < 16) :
    (matrixRow b1 (joinBytes b2 b1) n).map (·.row.operand) =
      (matrixRow b1 (joinBytes b2 b1) n).map (·.row.mode.operandFrom b1 b2) := by
  interval_cases n <;> rfl

/-- The mode of an entry does not depend on its operand. -/
theorem matrixRow_modes (b b' : Byte) (w w' : Word) (n : Nat) (hn : n < 16) :
    (matrixRow b w n).map (·.row.mode) = (matrixRow b' w' n).map (·.row.mode) := by
  interval_cases n <;> rfl

/-- The row of the matrix that an opcode byte selects. -/
theorem opcode_div_lt (b0 : Byte) : b0.toNat / 16 < 16 := by omega

/-- The decoded instruction has the opcode byte it was decoded from (R80). -/
@[simp] theorem decode_opcode (b0 b1 b2 : Byte) : (decode b0 b1 b2).row.opcode = b0 := by
  have hrow := matrixRow_opcodes b1 (joinBytes b2 b1) _ (opcode_div_lt b0)
  have hentry := List.getElem_of_eq hrow (i := b0.toNat % 16) (by simp [matrixRow_length]; omega)
  simp only [List.getElem_map, List.getElem_range, Nat.div_add_mod, BitVec.ofNat_toNat, BitVec.setWidth_eq] at hentry
  exact hentry

/-- The decoded instruction's operand is what its mode takes from the bytes after the opcode (R83). -/
theorem decode_operand (b0 b1 b2 : Byte) :
    (decode b0 b1 b2).row.operand = (decode b0 b1 b2).row.mode.operandFrom b1 b2 := by
  have hrow := matrixRow_operands b1 b2 _ (opcode_div_lt b0)
  have hentry := List.getElem_of_eq hrow (i := b0.toNat % 16) (by simp [matrixRow_length]; omega)
  simp only [List.getElem_map] at hentry
  exact hentry

/-- The opcode byte alone determines the mode, and with it the length (R82). -/
theorem decode_mode (b0 b1 b2 c1 c2 : Byte) : (decode b0 b1 b2).row.mode = (decode b0 c1 c2).row.mode := by
  have hrow := matrixRow_modes b1 c1 (joinBytes b2 b1) (joinBytes c2 c1) _ (opcode_div_lt b0)
  have hentry := List.getElem_of_eq hrow (i := b0.toNat % 16) (by simp [matrixRow_length]; omega)
  simp only [List.getElem_map] at hentry
  exact hentry

/-- The matrix entry of an instruction's opcode, given the instruction's operand, is the instruction. -/
theorem decode_of_operand {i : Instr} {b1 b2 : Byte} (h : i.row.operand = i.row.mode.operandFrom b1 b2) :
    decode i.row.opcode b1 b2 = i := by
  cases i <;> (cases h; dsimp only [Instr.row]; rfl)

/-- Every dispatch row is well-formed, and every instruction is as long as its encoding (R81, R82). -/
theorem rowFits (i : Instr) : Laws.RowFits.Statement i := by
  cases i <;> exact ⟨rfl, rfl⟩

/-- Every instruction has as many operand bytes as its mode calls for (R81). -/
theorem operand_bytes_length (i : Instr) : i.row.operand.bytes.length = i.row.mode.operandBytes :=
  Nat.add_right_cancel ((rowFits i).2.trans (Nat.add_comm ..))

/-- An operand that fits its mode is the one its mode takes from the operand's own bytes, whatever follows them. -/
theorem operand_eq_operandFrom {o : Operand} {m : Mode} (h : o.bytes.length = m.operandBytes) (rest : List Byte) :
    o = m.operandFrom ((o.bytes ++ rest).getD 0 0) ((o.bytes ++ rest).getD 1 0) := by
  cases o <;> cases m <;> cases h
  case word.abs.refl | word.abx.refl | word.aby.refl | word.ind.refl => exact congrArg _ (Machine.joinBytes_hi8_lo8 _).symm
  all_goals rfl

/-- The bytes of the operand that a mode takes are the ones it took them from. -/
theorem operandFrom_bytes (m : Mode) (b1 b2 : Byte) : (m.operandFrom b1 b2).bytes = [b1, b2].take m.operandBytes := by
  cases m <;> simp [Mode.operandFrom, Operand.bytes, Mode.operandBytes, Machine.lo8_joinBytes, Machine.hi8_joinBytes]

/-- A list of bytes that holds the operand the opcode calls for decodes (R82). -/
theorem decodeBytes_cons (b0 : Byte) (rest : List Byte) (h : (decode b0 0 0).row.mode.operandBytes ≤ rest.length) :
    decodeBytes (b0 :: rest) = .ok (decode b0 (rest.getD 0 0) (rest.getD 1 0),
      (b0 :: rest).drop (decode b0 (rest.getD 0 0) (rest.getD 1 0)).length) := by
  rw [decodeBytes, if_neg (Nat.not_lt.mpr h), Instr.length, decode_mode b0 (rest.getD 0 0) _ 0 0, Nat.add_comm, List.drop_succ_cons]

/-- Settles O1: the matrix entry of the opcode, given the operand that fits its mode, is the instruction. -/
theorem decodeOfEncode : Obligations.DecodeOfEncode := by
  intro i rest
  have hlen := operand_bytes_length i
  have hdec := decode_of_operand (operand_eq_operandFrom hlen rest)
  have hmode : (decode i.row.opcode 0 0).row.mode = i.row.mode := by rw [decode_mode, hdec]
  have hbytes : i.length = (encode i).length := (rowFits i).2.symm
  rw [encode, List.cons_append, decodeBytes_cons _ _ (by rw [hmode, ← hlen]; simp), hdec, hbytes, encode,
    ← List.cons_append, List.drop_left]

/-- Settles O2: the opcode byte and the operand bytes are the ones decoded, mode by mode. -/
theorem encodeOfDecode : Obligations.EncodeOfDecode := by
  intro b0 b1 b2
  rw [encode, decode_opcode, decode_operand, operandFrom_bytes, Instr.length, Nat.add_comm, List.take_succ_cons]

/-- Settles O3: bytes that suffice for the mode are never rejected, and the mode is the opcode's alone. -/
theorem everyByteSequenceDecodes : Obligations.EveryByteSequenceDecodes := by
  refine ⟨fun b0 rest h => ⟨_, decodeBytes_cons b0 rest h, decode_opcode ..⟩,
    fun i => ⟨(rowFits i).2, rfl, congrArg (i.row.opcode :: ·) ?_⟩, decode_mode⟩
  have hlen := operand_bytes_length i
  generalize i.row.operand = o, i.row.mode = m at hlen ⊢
  cases o <;> cases m <;> cases hlen <;> rfl

/-- Settles O4: the decoder computes each of the words. -/
theorem sampleWordsDecode : Obligations.SampleWordsDecode :=
  ⟨rfl, rfl, rfl, rfl, rfl, rfl, rfl, rfl⟩

/-! ### The dispatch rows -/

/-- The opcodes that only read through an indexed base pay for a page crossing (R85 (b), R101). -/
def crossForms (b : Byte) (w : Word) : List Instr :=
  [.ldaAbx w, .ldaAby w, .ldaIzy b, .ldxAby w, .ldyAbx w, .adcAbx w, .adcAby w, .adcIzy b,
    .sbcAbx w, .sbcAby w, .sbcIzy b, .andAbx w, .andAby w, .andIzy b, .oraAbx w, .oraAby w, .oraIzy b,
    .eorAbx w, .eorAby w, .eorIzy b, .cmpAbx w, .cmpAby w, .cmpIzy b, .laxAby w, .laxIzy b, .lasAby w,
    .nopAbx1C w, .nopAbx3C w, .nopAbx5C w, .nopAbx7C w, .nopAbxDC w, .nopAbxFC w]

theorem crossForms_cross (b : Byte) (w : Word) : (crossForms b w).all (·.row.cross) = true := rfl

/-- No other row has the page-cross flag. -/
theorem cross_iff (i : Instr) : i.row.cross = true ↔ ∃ b w, i ∈ crossForms b w := by
  constructor
  · intro h
    cases i
    case oraIzy b | andIzy b | eorIzy b | adcIzy b | ldaIzy b | laxIzy b | cmpIzy b | sbcIzy b =>
      exact ⟨b, 0, by simp [crossForms]⟩
    case ldaAbx w | ldaAby w | ldxAby w | ldyAbx w | adcAbx w | adcAby w | sbcAbx w | sbcAby w | andAbx w | andAby w |
        oraAbx w | oraAby w | eorAbx w | eorAby w | cmpAbx w | cmpAby w | laxAby w | lasAby w | nopAbx1C w |
        nopAbx3C w | nopAbx5C w | nopAbx7C w | nopAbxDC w | nopAbxFC w =>
      exact ⟨0, w, by simp [crossForms]⟩
    all_goals cases h
  · rintro ⟨b, w, hi⟩
    exact List.all_eq_true.mp (crossForms_cross b w) i hi

/-- Settles O5: `rowFits` checks each row, `cross_iff` lists the page-cross flags. -/
theorem dispatchRows : Obligations.DispatchRows :=
  ⟨fun i => ⟨(rowFits i).1, cross_iff i⟩, fun _ _ => ⟨rfl, rfl, rfl⟩⟩

end Sys2Proof

/-! The entry points and the host's calls (40_step_and_addressing.md R100; 60_exceptions.md R273 to R275;
70_reset_and_hazards.md R300 to R304): when they complete, and what each leaves. -/

namespace Sys2Proof.Machine

/-! ### Totality and liveness -/

/-- Every instruction completes (R11). -/
theorem exec_completes (i : Instr) (s : State) : ∃ t, exec i s = .next t := by
  obtain ⟨h, _, he⟩ := exec_perform i
  exact ⟨_, (he s).trans (perform_eq i h s)⟩

/-- Once live, every call of the host completes. -/
theorem hostCall_completes (c : HostCall) (s : State) (h : s.live = true) : ∃ t, hostCall c s = .next t := by
  cases c
  case step => exact (exec_completes (fetchInstr s) s).imp fun t ht => (if_pos h).trans ht
  case irq | nmi => exact ⟨_, if_pos h⟩
  case reset | init | busSet | busAnswers => exact ⟨_, rfl⟩

/-- A step performs the host's next call (R304). -/
theorem step_of_calls (s : State) {c : HostCall} {cs : List HostCall} (h : s.calls = c :: cs) :
    step s = hostCall c { s with calls := cs } := by
  rw [step, nextCall, h]

/-- With no call listed a step is `step()` (log 6). -/
theorem step_of_no_calls (s : State) (h : s.calls = []) : step s = hostCall .step s := by
  rw [step, nextCall, h]

/-- Settles O7: every handler answers a next state, and a live machine refuses no call. -/
theorem everyEntryPointCompletes : Obligations.EveryEntryPointCompletes := by
  refine ⟨exec_completes, fun s hlive => ?_, fun s => ⟨_, rfl⟩⟩
  cases hc : s.calls with
  | nil => rw [step_of_no_calls s hc]; exact hostCall_completes .step s hlive
  | cons c cs => rw [step_of_calls s hc]; exact hostCall_completes c { s with calls := cs } hlive

/-- What an interrupt entry does besides taking the exception: the cycle count (R273, R274). -/
theorem interruptEntry_eq (vector : Word) (s : State) :
    interruptEntry vector s = (takeException s.pc true vector s.beginCall).addCycles 7 := rfl

/-- Settles O8: `whenLive` guards the three calls, and only `resetCall` and `initializeCall` write `live`. -/
theorem beforeResetRefused : Obligations.BeforeResetRefused := by
  refine ⟨fun s hlive c hc => ?_, fun s t c h => ?_⟩
  · have hrefused : ∀ f, whenLive s f = .refused .beforeReset := fun f => if_neg (by simp [hlive])
    simp only [List.mem_cons, List.not_mem_nil, or_false] at hc
    rcases hc with rfl | rfl | rfl <;> simp only [hostCall, hrefused]
  · rcases hostCall_cases c s t h with ⟨rfl, _, he⟩ | ⟨rfl, _, rfl⟩ | ⟨rfl, _, rfl⟩ | ⟨rfl, rfl⟩ | ⟨rfl, rfl⟩ |
      ⟨a, v, rfl, rfl⟩ | ⟨l, rfl, rfl⟩
    · exact (exec_booked _ s t he).live
    · simp [triggerIRQ, interruptEntry_eq]
    · simp [triggerNMI, interruptEntry_eq]
    all_goals rfl

/-- The bytes the Bus returns at `PC` are the ones `decodeBytes` is given. -/
theorem eq_fetchInstr_of_decodeBytes {s : State} {i : Instr} {rest : List Byte}
    (h : decodeBytes [s.busByte 0 s.pc, s.busByte 1 (s.pc + 1), s.busByte 2 (s.pc + 2)] = .ok (i, rest)) :
    i = fetchInstr s := by
  rw [decodeBytes] at h
  split at h <;> cases h
  rfl

/-- Settles O6: decoding a list of the three bytes is the fetch. -/
theorem stepRunsDecodedInstruction : Obligations.StepRunsDecodedInstruction := by
  intro s i rest hlive _ hdec
  obtain rfl := eq_fetchInstr_of_decodeBytes hdec
  exact ⟨fun hc => (step_of_no_calls s hc).trans (if_pos hlive), fun cs hc => (step_of_calls s hc).trans (if_pos hlive)⟩

/-! ### Reset -/

/-- Settles O49: `resetCall` is this record, and its two reads are those of the vector. -/
theorem resetLeaves : Obligations.ResetLeaves := by
  intro s
  have hread : (s.beginCall.busRead Config.resetVector).busByte 0 (Config.resetVector + 1) = s.busByte 1 0xFFFD :=
    State.busRead_busByte ..
  have hp : packP { n := false, v := false, d := false, i := true, z := false, c := false } = 0x24 := by decide
  refine ⟨resetCall s, rfl, hp, rfl, rfl, rfl, rfl, ?_, rfl, List.drop_drop, rfl, rfl, rfl, rfl, rfl, rfl⟩
  exact congrArg (fun v => [Access.read 0xFFFC (s.busByte 0 0xFFFC), Access.read 0xFFFD v]) hread

/-- Settles O50: both sides compute. -/
theorem resetStateHoldsSpecValues : Obligations.ResetStateHoldsSpecValues :=
  ⟨rfl, rfl, rfl, rfl, congrArg _ resetCall_reset⟩

/-- Settles O54: the reset state lists no memory and made two reads. -/
theorem resetMeetsInvariant : Obligations.ResetMeetsInvariant :=
  ⟨reset_mem_wf, by decide⟩

/-! ### Interrupts and the host's changes of the Bus -/

/-- `MemAfter` speaks of the flat RAM alone. -/
theorem MemAfter.of_mem {l : List (Word × Byte)} {s s' t t' : State} (h : MemAfter l s t) (hs : s.mem = s'.mem)
    (ht : t.mem = t'.mem) : MemAfter l s' t' := fun a => by
  rw [← State.byteAt_congr t t' ht, ← State.byteAt_congr s s' hs, h a]

/-- What an interrupt leaves, for a vector above the stack (R273, R274). -/
theorem interruptEntry_leaves (s : State) (h : Memory.wf s.mem) (vector : Word) (hv : 512 ≤ vector.toNat)
    (hv' : 512 ≤ (vector + 1).toNat) :
    let t := interruptEntry vector s
    t.pc = joinBytes (s.busByte 1 (vector + 1)) (s.busByte 0 vector) ∧ t.regs = { s.regs with sp := s.sp - 3 } ∧
      t.p = { s.p with i := true } ∧ t.cycles = s.cycles + 7 ∧
      t.trace = [.write (stackAddr s.sp) (hi8 s.pc), .write (stackAddr (s.sp - 1)) (lo8 s.pc),
        .write (stackAddr (s.sp - 2)) (packP s.p ||| 0x30), .read vector (s.busByte 0 vector),
        .read (vector + 1) (s.busByte 1 (vector + 1))] ∧
      MemAfter [(stackAddr s.sp, hi8 s.pc), (stackAddr (s.sp - 1), lo8 s.pc),
        (stackAddr (s.sp - 2), packP s.p ||| 0x30)] s t ∧
      t.mode = s.mode ∧ t.ea = s.ea ∧ t.lastOpcode = s.lastOpcode ∧ t.live = s.live ∧ t.calls = s.calls ∧
      t.sentinels = s.sentinels ∧ t.answers = s.answers.drop 2 := by
  rw [interruptEntry_eq]
  have hpc := takeException_pc_of_le s.pc true vector s.beginCall h hv hv'
  have htrace := takeException_trace s.pc true vector s.beginCall h hv hv'
  have hmem := takeException_memAfter s.pc vector s.beginCall h
  simp only [State.beginCall_busByte, State.beginCall_sp, State.beginCall_p, State.beginCall_trace, List.nil_append,
    pushedP_true] at hpc htrace hmem
  refine ⟨hpc, ?_, ?_, ?_, htrace, hmem.of_mem rfl rfl, ?_⟩
  · simp [State.regs]
  · simp
  · simp
  · simp

/-- Settles O52: the list is worked off from its head, and the host's two changes of the Bus are one byte written
(`memAfter_one`) and one field set. -/
theorem hostCallsInOrder : Obligations.HostCallsInOrder := by
  refine ⟨fun s c cs => step_of_calls s, fun s a v hwf => ⟨_, rfl, ?_⟩, fun s l => ⟨_, rfl, ?_⟩, fun s => ⟨_, rfl, ?_⟩⟩
  · exact ⟨memAfter_one s _ a v hwf rfl, rfl, rfl, rfl, rfl, rfl⟩
  · exact ⟨rfl, rfl, rfl, rfl, rfl, rfl⟩
  · exact ⟨rfl, rfl, rfl⟩

end Sys2Proof.Machine

namespace Sys2Proof

open Machine

/-- Settles O51: both entries are `interruptEntry`, and both vectors lie above the stack. -/
theorem interruptEntry : Obligations.InterruptEntry := by
  intro s hlive hwf c hc
  simp only [List.mem_cons, List.not_mem_nil, or_false] at hc
  rcases hc with rfl | rfl
  · exact ⟨triggerIRQ s, if_pos hlive, interruptEntry_leaves s hwf _ (by decide) (by decide)⟩
  · exact ⟨triggerNMI s, if_pos hlive, interruptEntry_leaves s hwf _ (by decide) (by decide)⟩

end Sys2Proof

/-! Which handler an instruction runs, with the instruction's forms kept: `IsHandler` forgets them, and the statements
about the whole machine ask for both (10_state.md R22, R24, R45; 20_memory.md R56). -/

namespace Sys2Proof.Machine

/-- `Runs i h`: `h` is the handler of the mnemonic that `i` is a form of. -/
inductive Runs : Instr → Handler → Prop where
  | lda {i b w} (hi : i ∈ ldaForms b w) : Runs i handleLda
  | ldx {i b w} (hi : i ∈ ldxForms b w) : Runs i handleLdx
  | ldy {i b w} (hi : i ∈ ldyForms b w) : Runs i handleLdy
  | sta {i b w} (hi : i ∈ staForms b w) : Runs i handleSta
  | stx {i b w} (hi : i ∈ stxForms b w) : Runs i handleStx
  | sty {i b w} (hi : i ∈ styForms b w) : Runs i handleSty
  | adc {i b w} (hi : i ∈ adcForms b w) : Runs i handleAdc
  | sbc {i b w} (hi : i ∈ sbcForms b w) : Runs i handleSbc
  | asl {i b w} (hi : i ∈ aslForms b w) : Runs i (handleShift aslFn)
  | lsr {i b w} (hi : i ∈ lsrForms b w) : Runs i (handleShift lsrFn)
  | rol {i b w} (hi : i ∈ rolForms b w) : Runs i (handleShift rolFn)
  | ror {i b w} (hi : i ∈ rorForms b w) : Runs i (handleShift rorFn)
  | and {i b w} (hi : i ∈ andForms b w) : Runs i handleAnd
  | ora {i b w} (hi : i ∈ oraForms b w) : Runs i handleOra
  | eor {i b w} (hi : i ∈ eorForms b w) : Runs i handleEor
  | bit {i b w} (hi : i ∈ bitForms b w) : Runs i handleBit
  | cmp {i b w} (hi : i ∈ cmpForms b w) : Runs i handleCmp
  | cpx {i b w} (hi : i ∈ cpxForms b w) : Runs i handleCpx
  | cpy {i b w} (hi : i ∈ cpyForms b w) : Runs i handleCpy
  | inc {i b w} (hi : i ∈ incForms b w) : Runs i handleInc
  | dec {i b w} (hi : i ∈ decForms b w) : Runs i handleDec
  | jmp {i w} (hi : i ∈ jmpForms w) : Runs i handleJmp
  | nop {i b w} (hi : i ∈ nopForms b w) : Runs i handleNothing
  | slo {i b w} (hi : i ∈ sloForms b w) : Runs i handleSlo
  | rla {i b w} (hi : i ∈ rlaForms b w) : Runs i handleRla
  | sre {i b w} (hi : i ∈ sreForms b w) : Runs i handleSre
  | rra {i b w} (hi : i ∈ rraForms b w) : Runs i handleRra
  | dcp {i b w} (hi : i ∈ dcpForms b w) : Runs i handleDcp
  | isc {i b w} (hi : i ∈ iscForms b w) : Runs i handleIsc
  | lax {i b w} (hi : i ∈ laxForms b w) : Runs i handleLax
  | sax {i b w} (hi : i ∈ saxForms b w) : Runs i handleSax
  | kil {i} (hi : i ∈ kilForms) : Runs i handleNothing
  | placeholder {i b w} (hi : i ∈ placeholderForms b w) : Runs i handleNothing
  | bpl (b : Byte) : Runs (.bpl b) handleBpl
  | bmi (b : Byte) : Runs (.bmi b) handleBmi
  | bvc (b : Byte) : Runs (.bvc b) handleBvc
  | bvs (b : Byte) : Runs (.bvs b) handleBvs
  | bcc (b : Byte) : Runs (.bcc b) handleBcc
  | bcs (b : Byte) : Runs (.bcs b) handleBcs
  | bne (b : Byte) : Runs (.bne b) handleBne
  | beq (b : Byte) : Runs (.beq b) handleBeq
  | tax : Runs .tax handleTax
  | tay : Runs .tay handleTay
  | txa : Runs .txa handleTxa
  | tya : Runs .tya handleTya
  | tsx : Runs .tsx handleTsx
  | txs : Runs .txs handleTxs
  | inx : Runs .inx handleInx
  | iny : Runs .iny handleIny
  | dex : Runs .dex handleDex
  | dey : Runs .dey handleDey
  | jsr (w : Word) : Runs (.jsrAbs w) handleJsr
  | rts : Runs .rts handleRts
  | pha : Runs .pha handlePha
  | pla : Runs .pla handlePla
  | php : Runs .php handlePhp
  | plp : Runs .plp handlePlp
  | brk : Runs .brk handleBrk
  | rti : Runs .rti handleRti
  | clc : Runs .clc handleClc
  | sec : Runs .sec handleSec
  | cli : Runs .cli handleCli
  | sei : Runs .sei handleSei
  | clv : Runs .clv handleClv
  | cld : Runs .cld handleCld
  | sed : Runs .sed handleSed

/-- The condition under which an instruction branches (R191 to R198); no other instruction does. -/
def branchTaken (i : Instr) (p : Flags) : Bool :=
  match i with
  | .bpl _ => !p.n | .bmi _ => p.n | .bvc _ => !p.v | .bvs _ => p.v
  | .bcc _ => !p.c | .bcs _ => p.c | .bne _ => !p.z | .beq _ => p.z
  | _ => false

/-- The eight branches run `branch`, each on its own condition (R190). -/
theorem runs_branch {i : Instr} {b : Byte} (hi : i ∈ branchForms b) :
    Runs i fun _ s => branch (branchTaken i s.p) s := by
  simp only [branchForms, List.mem_cons, List.not_mem_nil, or_false] at hi
  rcases hi with rfl | rfl | rfl | rfl | rfl | rfl | rfl | rfl
  exacts [.bpl b, .bmi b, .bvc b, .bvs b, .bcc b, .bcs b, .bne b, .beq b]

/-- The instructions of one form run a handler of their own. -/
theorem exists_runs_of_single {i : Instr} {w : Word} (hi : i ∈ singleForms w) : ∃ h, Runs i h := by
  simp only [singleForms, List.mem_cons, List.not_mem_nil, or_false] at hi
  rcases hi with rfl | rfl | rfl | rfl | rfl | rfl | rfl | rfl | rfl | rfl | rfl | rfl | rfl | rfl | rfl | rfl | rfl |
    rfl | rfl | rfl | rfl | rfl | rfl | rfl | rfl
  exacts [⟨_, .tax⟩, ⟨_, .tay⟩, ⟨_, .txa⟩, ⟨_, .tya⟩, ⟨_, .tsx⟩, ⟨_, .txs⟩, ⟨_, .inx⟩, ⟨_, .iny⟩, ⟨_, .dex⟩, ⟨_, .dey⟩,
    ⟨_, .jsr w⟩, ⟨_, .rts⟩, ⟨_, .pha⟩, ⟨_, .pla⟩, ⟨_, .php⟩, ⟨_, .plp⟩, ⟨_, .brk⟩, ⟨_, .rti⟩, ⟨_, .clc⟩, ⟨_, .sec⟩,
    ⟨_, .cli⟩, ⟨_, .sei⟩, ⟨_, .clv⟩, ⟨_, .cld⟩, ⟨_, .sed⟩]

/-- Every instruction runs a handler: the forms are complete (`mem_allForms`). -/
theorem exists_runs (i : Instr) : ∃ h, Runs i h := by
  obtain ⟨b, w, hi⟩ := mem_allForms i
  simp only [allForms, List.flatten_cons, List.flatten_nil, List.append_nil, List.mem_append] at hi
  rcases hi with hi | hi | hi | hi | hi | hi | hi | hi | hi | hi | hi | hi | hi | hi | hi | hi | hi | hi | hi | hi | hi |
    hi | hi | hi | hi | hi | hi | hi | hi | hi | hi | hi | hi | hi | hi
  exacts [⟨_, .lda hi⟩, ⟨_, .ldx hi⟩, ⟨_, .ldy hi⟩, ⟨_, .sta hi⟩, ⟨_, .stx hi⟩, ⟨_, .sty hi⟩, ⟨_, .adc hi⟩, ⟨_, .sbc hi⟩,
    ⟨_, .asl hi⟩, ⟨_, .lsr hi⟩, ⟨_, .rol hi⟩, ⟨_, .ror hi⟩, ⟨_, .and hi⟩, ⟨_, .ora hi⟩, ⟨_, .eor hi⟩, ⟨_, .bit hi⟩,
    ⟨_, .cmp hi⟩, ⟨_, .cpx hi⟩, ⟨_, .cpy hi⟩, ⟨_, .inc hi⟩, ⟨_, .dec hi⟩, ⟨_, .jmp hi⟩, ⟨_, .nop hi⟩, ⟨_, .slo hi⟩,
    ⟨_, .rla hi⟩, ⟨_, .sre hi⟩, ⟨_, .rra hi⟩, ⟨_, .dcp hi⟩, ⟨_, .isc hi⟩, ⟨_, .lax hi⟩, ⟨_, .sax hi⟩, ⟨_, .kil hi⟩,
    ⟨_, .placeholder hi⟩, ⟨_, runs_branch hi⟩, exists_runs_of_single hi]

/-- `exec` performs the handler that the instruction runs. -/
theorem Runs.exec_eq {i : Instr} {h : Handler} (hr : Runs i h) (s : State) : exec i s = perform i h s := by
  cases hr with
  | lda hi => exact exec_ldaForms _ _ s i hi
  | ldx hi => exact exec_ldxForms _ _ s i hi
  | ldy hi => exact exec_ldyForms _ _ s i hi
  | sta hi => exact exec_staForms _ _ s i hi
  | stx hi => exact exec_stxForms _ _ s i hi
  | sty hi => exact exec_styForms _ _ s i hi
  | adc hi => exact exec_adcForms _ _ s i hi
  | sbc hi => exact exec_sbcForms _ _ s i hi
  | asl hi => exact exec_aslForms _ _ s i hi
  | lsr hi => exact exec_lsrForms _ _ s i hi
  | rol hi => exact exec_rolForms _ _ s i hi
  | ror hi => exact exec_rorForms _ _ s i hi
  | and hi => exact exec_andForms _ _ s i hi
  | ora hi => exact exec_oraForms _ _ s i hi
  | eor hi => exact exec_eorForms _ _ s i hi
  | bit hi => exact exec_bitForms _ _ s i hi
  | cmp hi => exact exec_cmpForms _ _ s i hi
  | cpx hi => exact exec_cpxForms _ _ s i hi
  | cpy hi => exact exec_cpyForms _ _ s i hi
  | inc hi => exact exec_incForms _ _ s i hi
  | dec hi => exact exec_decForms _ _ s i hi
  | jmp hi => exact exec_jmpForms _ s i hi
  | nop hi => exact exec_nopForms _ _ s i hi
  | slo hi => exact exec_sloForms _ _ s i hi
  | rla hi => exact exec_rlaForms _ _ s i hi
  | sre hi => exact exec_sreForms _ _ s i hi
  | rra hi => exact exec_rraForms _ _ s i hi
  | dcp hi => exact exec_dcpForms _ _ s i hi
  | isc hi => exact exec_iscForms _ _ s i hi
  | lax hi => exact exec_laxForms _ _ s i hi
  | sax hi => exact exec_saxForms _ _ s i hi
  | kil hi => exact exec_kilForms s i hi
  | placeholder hi => exact exec_placeholderForms _ _ s i hi
  | bpl | bmi | bvc | bvs | bcc | bcs | bne | beq | tax | tay | txa | tya | tsx | txs | inx | iny | dex | dey | jsr | rts
  | pha | pla | php | plp | brk | rti | clc | sec | cli | sei | clv | cld | sed => rfl

/-- What an instruction's handler does to the state its resolver left, and the base cost, is the next state. -/
theorem Runs.next_eq {i : Instr} {h : Handler} (hr : Runs i h) {s t : State} (he : exec i s = .next t) :
    t = (h i.row.operand (resolved i s)).addCycles i.row.base := by
  rw [hr.exec_eq, perform_eq] at he
  cases he
  rfl

/-! ### What the handlers keep, field by field -/

/-- A shift, of `A` or of memory, writes none of these. -/
structure ShiftKeeps (s t : State) : Prop where
  sp : t.sp = s.sp
  pc : t.pc = s.pc
  cycles : t.cycles = s.cycles
  d : t.p.d = s.p.d
  i : t.p.i = s.p.i
  v : t.p.v = s.p.v

theorem handleShift_keeps (f : ShiftFn) (o : Operand) (s : State) : ShiftKeeps s (handleShift f o s) := by
  unfold handleShift
  split <;> exact ⟨rfl, rfl, rfl, rfl, rfl, rfl⟩

@[simp] theorem branch_sp (cond : Bool) (s : State) : (branch cond s).sp = s.sp := by cases cond <;> rfl
@[simp] theorem branch_p (cond : Bool) (s : State) : (branch cond s).p = s.p := by cases cond <;> rfl
@[simp] theorem branch_trace (cond : Bool) (s : State) : (branch cond s).trace = s.trace := by cases cond <;> rfl

section
variable {i : Instr} {h : Handler}

/-- `SP` moves by the stack instructions and TXS (R22). -/
theorem Runs.sp (hr : Runs i h) :
    (∃ w, i ∈ [.pha, .php, .pla, .plp, .jsrAbs w, .rts, .brk, .rti, .txs]) ∨ ∀ o s, (h o s).sp = s.sp := by
  cases hr
  case pha | php | pla | plp | rts | brk | rti | txs => exact .inl ⟨0, by simp⟩
  case jsr w => exact .inl ⟨w, by simp⟩
  case bpl | bmi | bvc | bvs | bcc | bcs | bne | beq => exact .inr fun _ s => branch_sp _ s
  case asl | lsr | rol | ror | slo | rla | sre | rra => exact .inr fun o s => (handleShift_keeps _ o s).sp
  all_goals exact .inr fun _ _ => rfl

/-- A handler moves `PC` only for a control transfer (R24). -/
theorem Runs.pc (hr : Runs i h) :
    (∃ b w, i ∈ branchForms b ++ jmpForms w ++ [.jsrAbs w, .rts, .rti, .brk]) ∨ ∀ o s, (h o s).pc = s.pc := by
  cases hr
  case bpl b | bmi b | bvc b | bvs b | bcc b | bcs b | bne b | beq b => exact .inl ⟨b, 0, by simp [branchForms]⟩
  case jmp w hi => exact .inl ⟨0, w, by simp [hi]⟩
  case jsr w => exact .inl ⟨0, w, by simp⟩
  case rts | rti | brk => exact .inl ⟨0, 0, by simp⟩
  case asl | lsr | rol | ror | slo | rla | sre | rra => exact .inr fun o s => (handleShift_keeps _ o s).pc
  all_goals exact .inr fun _ _ => rfl

/-- A handler adds cycles only for a branch (R101, R190). -/
theorem Runs.cycles (hr : Runs i h) : (∃ b, i ∈ branchForms b) ∨ ∀ o s, (h o s).cycles = s.cycles := by
  cases hr
  case bpl b | bmi b | bvc b | bvs b | bcc b | bcs b | bne b | beq b => exact .inl ⟨b, by simp [branchForms]⟩
  case asl | lsr | rol | ror | slo | rla | sre | rra => exact .inr fun o s => (handleShift_keeps _ o s).cycles
  case brk => exact .inr fun _ s => takeException_cycles _ _ _ s
  case rti => exact .inr fun _ s => returnFromException_cycles s
  all_goals exact .inr fun _ _ => rfl

/-- P.D is written by CLD, SED and the two pulls of the flags byte (R28, R45). -/
theorem Runs.flagD (hr : Runs i h) : i ∈ [.cld, .sed, .plp, .rti] ∨ ∀ o s, (h o s).p.d = s.p.d := by
  cases hr
  case cld | sed | plp | rti => exact .inl (by simp)
  case brk => exact .inr fun _ s => by simp [handleBrk]
  case bpl | bmi | bvc | bvs | bcc | bcs | bne | beq => exact .inr fun _ s => congrArg Flags.d (branch_p _ s)
  case asl | lsr | rol | ror | slo | rla | sre | rra => exact .inr fun o s => (handleShift_keeps _ o s).d
  all_goals exact .inr fun _ _ => rfl

/-- P.I is written by CLI, SEI, BRK and the two pulls of the flags byte (R29, R45). -/
theorem Runs.flagI (hr : Runs i h) : i ∈ [.cli, .sei, .brk, .plp, .rti] ∨ ∀ o s, (h o s).p.i = s.p.i := by
  cases hr
  case cli | sei | brk | plp | rti => exact .inl (by simp)
  case bpl | bmi | bvc | bvs | bcc | bcs | bne | beq => exact .inr fun _ s => congrArg Flags.i (branch_p _ s)
  case asl | lsr | rol | ror | slo | rla | sre | rra => exact .inr fun o s => (handleShift_keeps _ o s).i
  all_goals exact .inr fun _ _ => rfl

/-- P.V is written by CLV, BIT, the adder and the two pulls of the flags byte (R27, R45). -/
theorem Runs.flagV (hr : Runs i h) :
    (∃ b w, i ∈ [.clv, .plp, .rti] ++ adcForms b w ++ sbcForms b w ++ rraForms b w ++ iscForms b w ++ bitForms b w) ∨
      ∀ o s, (h o s).p.v = s.p.v := by
  cases hr
  case clv | plp | rti => exact .inl ⟨0, 0, by simp⟩
  case adc b w hi | sbc b w hi | rra b w hi | isc b w hi | bit b w hi => exact .inl ⟨b, w, by simp [hi]⟩
  case brk => exact .inr fun _ s => by simp [handleBrk]
  case bpl | bmi | bvc | bvs | bcc | bcs | bne | beq => exact .inr fun _ s => congrArg Flags.v (branch_p _ s)
  case asl | lsr | rol | ror | slo | rla | sre => exact .inr fun o s => (handleShift_keeps _ o s).v
  all_goals exact .inr fun _ _ => rfl

/-- P.C is written by CLC, SEC, the shifts, the compares, the adder and the two pulls of the flags byte (R34, R45). -/
theorem Runs.flagC (hr : Runs i h) :
    (∃ b w, i ∈ [.clc, .sec, .plp, .rti] ++ aslForms b w ++ lsrForms b w ++ rolForms b w ++ rorForms b w ++
      cmpForms b w ++ cpxForms b w ++ cpyForms b w ++ sloForms b w ++ rlaForms b w ++ sreForms b w ++ dcpForms b w ++
      adcForms b w ++ sbcForms b w ++ rraForms b w ++ iscForms b w) ∨ ∀ o s, (h o s).p.c = s.p.c := by
  cases hr
  case clc | sec | plp | rti => exact .inl ⟨0, 0, by simp⟩
  case asl b w hi | lsr b w hi | rol b w hi | ror b w hi | cmp b w hi | cpx b w hi | cpy b w hi | slo b w hi |
      rla b w hi | sre b w hi | dcp b w hi | adc b w hi | sbc b w hi | rra b w hi | isc b w hi =>
    exact .inl ⟨b, w, by simp [hi]⟩
  case brk => exact .inr fun _ s => by simp [handleBrk]
  case bpl | bmi | bvc | bvs | bcc | bcs | bne | beq => exact .inr fun _ s => congrArg Flags.c (branch_p _ s)
  all_goals exact .inr fun _ _ => rfl

end

/-- The instructions that write neither N nor Z (R45). -/
def keepsNZForms (b : Byte) (w : Word) : List Instr :=
  [.clc, .sec, .cli, .sei, .clv, .cld, .sed, .brk, .txs, .pha, .php, .rts, .jsrAbs w] ++ staForms b w ++ stxForms b w ++
    styForms b w ++ saxForms b w ++ jmpForms w ++ branchForms b ++ nopForms b w ++ placeholderForms b w ++ kilForms

/-- Their handlers write neither. -/
theorem runs_keepsNZ {i : Instr} {b : Byte} {w : Word} (hi : i ∈ keepsNZForms b w) :
    ∃ h, Runs i h ∧ ∀ o s, (h o s).p.n = s.p.n ∧ (h o s).p.z = s.p.z := by
  simp only [keepsNZForms, List.mem_append] at hi
  rcases hi with ((((((((hi | hi) | hi) | hi) | hi) | hi) | hi) | hi) | hi) | hi
  · simp only [List.mem_cons, List.not_mem_nil, or_false] at hi
    rcases hi with rfl | rfl | rfl | rfl | rfl | rfl | rfl | rfl | rfl | rfl | rfl | rfl | rfl
    exacts [⟨_, .clc, fun _ _ => ⟨rfl, rfl⟩⟩, ⟨_, .sec, fun _ _ => ⟨rfl, rfl⟩⟩, ⟨_, .cli, fun _ _ => ⟨rfl, rfl⟩⟩,
      ⟨_, .sei, fun _ _ => ⟨rfl, rfl⟩⟩, ⟨_, .clv, fun _ _ => ⟨rfl, rfl⟩⟩, ⟨_, .cld, fun _ _ => ⟨rfl, rfl⟩⟩,
      ⟨_, .sed, fun _ _ => ⟨rfl, rfl⟩⟩, ⟨_, .brk, fun _ _ => by simp [handleBrk]⟩, ⟨_, .txs, fun _ _ => ⟨rfl, rfl⟩⟩,
      ⟨_, .pha, fun _ _ => ⟨rfl, rfl⟩⟩, ⟨_, .php, fun _ _ => ⟨rfl, rfl⟩⟩, ⟨_, .rts, fun _ _ => ⟨rfl, rfl⟩⟩,
      ⟨_, .jsr w, fun _ _ => ⟨rfl, rfl⟩⟩]
  · exact ⟨_, .sta hi, fun _ _ => ⟨rfl, rfl⟩⟩
  · exact ⟨_, .stx hi, fun _ _ => ⟨rfl, rfl⟩⟩
  · exact ⟨_, .sty hi, fun _ _ => ⟨rfl, rfl⟩⟩
  · exact ⟨_, .sax hi, fun _ _ => ⟨rfl, rfl⟩⟩
  · exact ⟨_, .jmp hi, fun _ _ => ⟨rfl, rfl⟩⟩
  · exact ⟨_, runs_branch hi, fun _ _ => by simp⟩
  · exact ⟨_, .nop hi, fun _ _ => ⟨rfl, rfl⟩⟩
  · exact ⟨_, .placeholder hi, fun _ _ => ⟨rfl, rfl⟩⟩
  · exact ⟨_, .kil hi, fun _ _ => ⟨rfl, rfl⟩⟩

/-- Settles O56: flag by flag, the handlers outside the list keep it. -/
theorem flagsWrittenOnlyBy : Obligations.FlagsWrittenOnlyBy := by
  intro i s t he
  obtain ⟨h, hr⟩ := exists_runs i
  have ht := hr.next_eq he
  refine ⟨fun hne => hr.flagD.resolve_right fun hk => ?_, fun hne => hr.flagI.resolve_right fun hk => ?_,
    fun hne => hr.flagV.resolve_right fun hk => ?_, fun hne => hr.flagC.resolve_right fun hk => ?_, fun hne b w hi => ?_⟩
  case refine_5 =>
    obtain ⟨h', hr', hk⟩ := runs_keepsNZ hi
    obtain ⟨hn, hz⟩ := hk i.row.operand (resolved i s)
    rw [hr'.next_eq he] at hne
    exact hne.elim (· hn) (· hz)
  all_goals exact hne (by rw [ht]; exact hk i.row.operand (resolved i s))

/-- Settles O57: the other handlers keep `SP`, and leave `PC` where the resolver put it. -/
theorem stackAndProgramCounterMovers : Obligations.StackAndProgramCounterMovers := by
  intro i s t he
  obtain ⟨h, hr⟩ := exists_runs i
  have ht := hr.next_eq he
  refine ⟨fun hne => hr.sp.resolve_right fun hk => hne ?_, fun hne => hr.pc.resolve_right fun hk => hne ?_⟩
  · rw [ht]; exact hk i.row.operand (resolved i s)
  · rw [ht]; exact (hk i.row.operand (resolved i s)).trans (resolved_pc i s)

/-! ### Cycles (40_step_and_addressing.md R101, R102; 45_branch_jump.md R190) -/

/-- Only the branches branch. -/
theorem branchTaken_eq_false {i : Instr} (h : ∀ b, i ∉ branchForms b) (p : Flags) : branchTaken i p = false := by
  cases i
  case bpl b | bmi b | bvc b | bvs b | bcc b | bcs b | bne b | beq b => exact absurd (by simp [branchForms]) (h b)
  all_goals rfl

/-- The cycles of a branch, taken or not. -/
theorem branch_cycles (cond : Bool) (s : State) :
    (branch cond s).cycles = s.cycles + if cond then (if page s.ea = page s.pc then 1 else 2) else 0 := by
  cases cond
  · rfl
  · show s.cycles + (Config.branchTaken + if page s.ea = page s.pc then 0 else Config.branchOtherPage) = _
    split <;> simp [*, Config.branchTaken, Config.branchOtherPage]

/-- What an instruction costs: `costOf`, and what a taken branch adds. -/
theorem exec_cycles {i : Instr} {s t : State} (he : exec i s = .next t) :
    t.cycles = s.cycles + costOf i s +
      if branchTaken i s.p then (if page (eaOf i s) = page (nextPC i s) then 1 else 2) else 0 := by
  obtain ⟨h, hr⟩ := exists_runs i
  by_cases hb : ∃ b, i ∈ branchForms b
  · obtain ⟨b, hi⟩ := hb
    rw [(runs_branch hi).next_eq he, State.addCycles_cycles, branch_cycles]
    simp only [resolved_cycles, resolved_p, resolved_ea, resolved_pc, costOf]
    omega
  · have hk := hr.cycles.resolve_left hb i.row.operand (resolved i s)
    rw [branchTaken_eq_false (fun b hi => hb ⟨b, hi⟩), hr.next_eq he, State.addCycles_cycles, hk, resolved_cycles, costOf]
    simp
    omega

/-- A row that can pay the bonus costs at most 5, so that the bonus keeps it below the bound. -/
theorem base_le_of_cross {i : Instr} (h : i.row.cross = true) : i.row.base ≤ 5 := by
  obtain ⟨b, w, hi⟩ := (cross_iff i).mp h
  have hall : (crossForms b w).all (fun i => decide (i.row.base ≤ 5)) = true := rfl
  exact of_decide_eq_true (List.all_eq_true.mp hall i hi)

/-- A branch costs 2, and has no page-cross flag. -/
theorem row_of_branch {i : Instr} {b : Byte} (hi : i ∈ branchForms b) : i.row.base = 2 ∧ i.row.cross = false := by
  have hall : (branchForms b).all (fun i => i.row.base == 2 && !i.row.cross) = true := rfl
  simpa using List.all_eq_true.mp hall i hi

theorem crossBonus_le (r : Row) (s : State) : crossBonus r s ≤ 1 ∧ (r.cross = false → crossBonus r s = 0) := by
  unfold crossBonus
  split <;> simp_all [Config.pageCrossBonus]

/-- The whole cost lies between 2 and 8 (R101). -/
theorem exec_cycles_bounds {i : Instr} {s t : State} (he : exec i s = .next t) :
    s.cycles + 2 ≤ t.cycles ∧ t.cycles ≤ s.cycles + 8 := by
  have hwf : 2 ≤ i.row.base ∧ i.row.base ≤ 8 := by
    have := (rowFits i).1
    simp only [Instr.wellFormed, Row.wellFormed, Row.baseInRange, Bool.and_eq_true, decide_eq_true_eq] at this
    exact this.1.2
  obtain ⟨hle, hzero⟩ := crossBonus_le i.row (fetchOpcode i.row s)
  rw [exec_cycles he, costOf]
  by_cases hb : ∃ b, i ∈ branchForms b
  · obtain ⟨b, hi⟩ := hb
    obtain ⟨hbase, hcross⟩ := row_of_branch hi
    rw [hbase, hzero hcross]
    split <;> [split; skip] <;> omega
  · rw [branchTaken_eq_false fun b hi => hb ⟨b, hi⟩]
    simp only [Bool.false_eq_true, if_false]
    cases hc : i.row.cross with
    | false => have := hzero hc; omega
    | true => have := base_le_of_cross hc; omega

/-- Settles O12: `exec_cycles`, with the bonus written out mode by mode. -/
theorem cycleAccounting : Obligations.CycleAccounting := by
  intro i s t he crossed taken
  have htaken : taken = branchTaken i s.p := rfl
  have hcrossed : crossed = indexCrosses i.row.mode i.row.operand (fetchOpcode i.row s) := by
    simp only [crossed, eaOf, indexCrosses, indexBase]
    cases i.row.mode <;> rfl
  refine ⟨?_, exec_cycles_bounds he⟩
  rw [exec_cycles he, costOf, crossBonus, htaken, hcrossed, Nat.add_assoc]
  rfl

end Sys2Proof.Machine

/-! Effective addresses, the reads of the fetch and the resolver, and the Bus (40_step_and_addressing.md R104 to R117;
20_memory.md R50 to R64). -/

namespace Sys2Proof.Machine

/-! ### Effective addresses and resolver reads -/

/-- Every operand as a number: little-endian (R81, R83). -/
theorem asWord_toNat (o : Operand) : o.asWord.toNat = o.hi.toNat * 256 + o.lo.toNat := by
  cases o with
  | none => rfl
  | byte b => simp [Operand.asWord, Operand.hi, Operand.lo, zext16_toNat]
  | word w => rw [Operand.hi, Operand.lo, ← joinBytes_toNat, joinBytes_hi8_lo8, Operand.asWord]

/-- Every operand as its two bytes. -/
theorem asWord_eq (o : Operand) : o.asWord = joinBytes o.hi o.lo := by
  rw [← BitVec.toNat_inj, asWord_toNat, joinBytes_toNat]

/-- A zero-page address written as a number. -/
theorem zext16_eq_ofNat (z : Byte) : zext16 z = BitVec.ofNat 16 z.toNat := by
  rw [← BitVec.toNat_inj, zext16_toNat, BitVec.toNat_ofNat]
  omega

/-- Adding an index register to an address. -/
theorem toNat_add_zext16 (w : Word) (z : Byte) : (w + zext16 z).toNat = (w.toNat + z.toNat) % 65536 := by
  rw [BitVec.toNat_add, zext16_toNat]

/-- A pointer in the zero page after the opcode fetch: its second byte wraps in page 0 (R110, R111). -/
theorem zpPointer_fetchOpcode_toNat (r : Row) (s : State) (z : Byte) : (zpPointer (fetchOpcode r s) z).toNat =
    (s.busByte 3 (BitVec.ofNat 16 ((z.toNat + 1) % 256))).toNat * 256 + (s.busByte 2 (BitVec.ofNat 16 z.toNat)).toNat := by
  simp only [zpPointer, zpNext, joinBytes_toNat, fetchOpcode_busByte, zext16_eq_ofNat, BitVec.toNat_add]
  rfl

/-- The page-wrap bug: the second byte comes from the same page (R112). -/
theorem indNext_asWord (o : Operand) : indNext o.asWord =
    BitVec.ofNat 16 ((o.hi.toNat * 256 + o.lo.toNat) / 256 * 256 + (o.hi.toNat * 256 + o.lo.toNat + 1) % 256) := by
  have hlo := o.lo.isLt
  have hhi := o.hi.isLt
  have hone : (1 : Byte).toNat = 1 := rfl
  rw [asWord_eq, indNext, hi8_joinBytes, lo8_joinBytes, ← BitVec.toNat_inj, joinBytes_toNat, BitVec.toNat_add, BitVec.toNat_ofNat]
  omega

/-- The destination of an indirect jump after the opcode fetch (R112). -/
theorem indTarget_fetchOpcode_toNat (r : Row) (s : State) (o : Operand) :
    let p := o.hi.toNat * 256 + o.lo.toNat
    (indTarget (fetchOpcode r s) o.asWord).toNat =
      (s.busByte 4 (BitVec.ofNat 16 (p / 256 * 256 + (p + 1) % 256))).toNat * 256 +
        (s.busByte 3 (BitVec.ofNat 16 p)).toNat := by
  have hw : o.asWord = BitVec.ofNat 16 (o.hi.toNat * 256 + o.lo.toNat) := by
    rw [← asWord_toNat, BitVec.ofNat_toNat, BitVec.setWidth_eq]
  simp only [indTarget, joinBytes_toNat, fetchOpcode_busByte, indNext_asWord, ← hw]

/-- Settles O9: the resolver's arithmetic on natural numbers, mode by mode. -/
theorem effectiveAddressOfMode : Obligations.EffectiveAddressOfMode := by
  intro i s o ea
  have hea : ea = (effectiveAddress i.row.mode o (fetchOpcode i.row s)).toNat := rfl
  have hrel : i.row.mode = .rel → (ea : Int) = (s.pc.toNat + 2 + o.lo.toInt) % 65536 := fun hm => eaOf_rel_toNat hm s
  cases hm : i.row.mode <;> rw [hm] at hea <;> simp only [effectiveAddress] at hea
  case imp | acc => trivial
  case imm => exact hea.trans (BitVec.toNat_add ..)
  case zp => exact hea.trans (zext16_toNat _)
  case zpx | zpy => exact hea.trans ((zext16_toNat _).trans (BitVec.toNat_add ..))
  case abs => exact hea.trans (asWord_toNat o)
  case abx | aby => simp only [hea, toNat_add_zext16, asWord_toNat, fetchOpcode_x, fetchOpcode_y]
  case izx => simp only [hea, zpPointer_fetchOpcode_toNat, fetchOpcode_x, BitVec.toNat_add]
  case izy => simp only [hea, toNat_add_zext16, zpPointer_fetchOpcode_toNat, fetchOpcode_y]
  case ind => exact hea.trans (indTarget_fetchOpcode_toNat ..)
  case rel =>
    have := hrel hm
    rw [BitVec.toInt_eq_toNat_cond] at this
    simp only [this]
    split <;> split <;> omega

/-! ### How many accesses, and which come first -/

/-- A shift makes at most two accesses. -/
theorem handleShift_trace_length (f : ShiftFn) (o : Operand) (s : State) :
    (handleShift f o s).trace.length ≤ s.trace.length + 2 := by
  unfold handleShift
  split <;> simp [shiftA, shiftMem]

/-- One more access. -/
theorem trace_length_succ {u t : State} {x : Access} {n : Nat} (ht : t.trace = u.trace ++ [x])
    (hu : u.trace.length ≤ n) : t.trace.length ≤ n + 1 := by
  rw [ht, List.length_append]
  exact Nat.add_le_add_right hu 1

/-- A handler makes at most three accesses, BRK's apart (R56). -/
theorem Runs.trace_length {i : Instr} {h : Handler} (hr : Runs i h) :
    i = .brk ∨ ∀ o s, (h o s).trace.length ≤ s.trace.length + 3 := by
  cases hr
  case brk => exact .inl rfl
  case asl | lsr | rol | ror => exact .inr fun o s => (handleShift_trace_length _ o s).trans (Nat.le_succ _)
  case slo | rla | sre | rra => exact .inr fun o s => trace_length_succ rfl (handleShift_trace_length _ o s)
  case bpl | bmi | bvc | bvs | bcc | bcs | bne | beq =>
    exact .inr fun _ s => (congrArg List.length (branch_trace _ s)).le.trans (Nat.le_add_right _ 3)
  case lda | ldx | ldy | lax | adc | sbc | and | ora | eor | bit | cmp | cpx | cpy | sta | stx | sty | sax | pha | php |
      pla | plp =>
    exact .inr fun _ s => (trace_length_succ rfl (Nat.le_refl s.trace.length)).trans (Nat.le_add_right _ 2)
  case inc | dec | dcp | isc | jsr | rts =>
    exact .inr fun _ s => by simp [handleInc, handleDec, handleDcp, handleIsc, composite, handleCmp, handleSbc,
      addWithCarry, modifyMem, handleJsr, handleRts, State.push16, State.pull16]
  case rti => exact .inr fun _ s => by simp [handleRti, returnFromException_trace]
  all_goals exact .inr fun _ s => Nat.le_add_right s.trace.length 3

/-- The fetch and the resolver make at most four reads, those of an indirect jump apart (R117). -/
theorem fetchReads_length (i : Instr) (s : State) :
    (fetchReads i s).length = 1 + resolverReadCount i.row.mode := by
  unfold fetchReads resolverReads
  cases i.row.mode <;> rfl

/-- Only JMP goes through a word pointer (R112, R199). -/
theorem eq_jmpInd_of_mode {i : Instr} (hm : i.row.mode = .ind) : ∃ w, i = .jmpInd w := by
  cases i <;> cases hm
  exact ⟨_, rfl⟩

/-- Every other resolver makes at most three reads (R117). -/
theorem resolverReadCount_le {m : Mode} (hm : m ≠ .ind) : resolverReadCount m ≤ 3 := by
  cases m
  case ind => exact absurd rfl hm
  all_goals decide

/-- No instruction makes more than seven accesses (R56). -/
theorem exec_trace_length {i : Instr} {s t : State} (he : exec i s = .next t) : t.trace.length ≤ 7 := by
  obtain ⟨h, hr⟩ := exists_runs i
  by_cases hm : i.row.mode = .ind
  · obtain ⟨w, rfl⟩ := eq_jmpInd_of_mode hm
    have hj : Runs (.jmpInd w) handleJmp := .jmp (w := w) (by simp [jmpForms])
    rw [hj.next_eq he]
    exact (fetchReads_length (.jmpInd w) s).le.trans (show 5 ≤ 7 by decide)
  · have hreads := resolverReadCount_le hm
    rcases hr.trace_length with rfl | hacc
    · rw [Runs.brk.next_eq he]
      simp [handleBrk, takeException, State.push16, fetchReads_length, Instr.row, resolverReadCount]
    · have := hacc i.row.operand (resolved i s)
      rw [resolved_trace, fetchReads_length] at this
      rw [hr.next_eq he, State.addCycles_trace]
      omega

/-- The accesses of an instruction begin with those of the fetch and the resolver (R117). -/
theorem exec_trace_begins {i : Instr} {s t : State} (he : exec i s = .next t) :
    ∃ handler, t.trace = fetchReads i s ++ handler := by
  obtain ⟨h, hh, hexec⟩ := exec_perform i
  rw [hexec, perform_eq] at he
  cases he
  obtain ⟨l, hl, _⟩ := hh.counted i.row.operand (resolved i s)
  exact ⟨l, hl⟩

/-- Settles O11: the handler appends to the trace; the addresses are each resolver's. -/
theorem fetchReadsComeFirst : Obligations.FetchReadsComeFirst := by
  intro i s t he
  obtain ⟨l, hl⟩ := exec_trace_begins he
  have hone : 1 ≤ t.trace.length := by rw [hl, List.length_append, fetchReads_length]; omega
  refine ⟨⟨l, hl⟩, hone, exec_trace_length he, ?_⟩
  have htwo : s.pc + 1#16 + 1#16 = s.pc + 2#16 := BitVec.add_assoc ..
  simp only [fetchReads, List.map_cons, List.cons.injEq, true_and]
  cases i.row.mode <;>
    simp [resolverReads, htwo, asWord_eq, zpNext, indNext, hi8_joinBytes, lo8_joinBytes]

/-! ### The flat RAM follows the writes -/

/-- The RAM after the writes among the accesses. -/
def writesOn (m : Memory) : List Access → Memory
  | [] => m
  | .read _ _ :: rest => writesOn m rest
  | .write a v :: rest => writesOn (memWrite m a.toNat v) rest

/-- What a Bus run leaves in the RAM is what the writes leave (R61). -/
theorem mem_of_busRun {m m' : Memory} {a a' : List BusAnswer} {l : List Access}
    (h : busRun m a l = some (m', a')) : m' = writesOn m l := by
  induction l generalizing m a with
  | nil => cases h; rfl
  | cons x rest ih =>
    cases x with
    | read b v =>
      rw [busRun] at h
      split at h
      · exact ih h
      · cases h
    | write b v => exact ih h

theorem writesOn_append (m : Memory) (l l' : List Access) : writesOn m (l ++ l') = writesOn (writesOn m l) l' := by
  induction l generalizing m with
  | nil => rfl
  | cons x rest ih => cases x <;> exact ih _

/-- The fetch and the resolver write nothing. -/
theorem writesOn_fetchReads (m : Memory) (i : Instr) (s : State) : writesOn m (fetchReads i s) = m := by
  unfold fetchReads resolverReads
  cases i.row.mode <;> rfl

/-- Writes keep the canonical form. -/
theorem writesOn_wf {m : Memory} (h : Memory.wf m) (l : List Access) : Memory.wf (writesOn m l) := by
  induction l generalizing m with
  | nil => exact h
  | cons x rest ih =>
    cases x with
    | read b v => exact ih h
    | write b v => exact ih (memWrite_wf m _ v b.isLt h)

/-- `lastWritten` looks at the first access after all others. -/
theorem lastWritten_cons (x : Access) (l : List Access) (a : Word) (old : Byte) :
    lastWritten (x :: l) a old = lastWritten l a (lastWritten [x] a old) := by
  simp only [lastWritten, List.reverse_cons, List.findSome?_append]
  cases List.findSome? _ l.reverse <;> rfl

/-- Each byte of the RAM is the one written there last. -/
theorem memRead_writesOn {m : Memory} (h : Memory.wf m) (l : List Access) (a : Word) :
    memRead (writesOn m l) a.toNat = lastWritten l a (memRead m a.toNat) := by
  induction l generalizing m with
  | nil => rfl
  | cons x rest ih =>
    rw [lastWritten_cons]
    cases x with
    | read b v => exact ih h
    | write b v =>
      have hone : lastWritten [.write b v] a (memRead m a.toNat) = memRead (memWrite m b.toNat v) a.toNat := by
        rw [memRead_memWrite m h.1]
        by_cases hab : a = b
        · simp [lastWritten, hab]
        · simp [lastWritten, hab, Ne.symm hab, BitVec.toNat_inj]
      rw [hone]
      exact ih (memWrite_wf m _ v b.isLt h)

/-! ### Immediate mode -/

/-- `t` comes from `s` by updates of the registers and flags: no access, `PC` and the counter as they were. -/
structure Quiet (s t : State) : Prop where
  pc : t.pc = s.pc
  cycles : t.cycles = s.cycles
  trace : t.trace = s.trace
  mem : t.mem = s.mem
  answers : t.answers = s.answers

/-- The handlers of the instructions in Immediate mode read their operand and write no memory, or do nothing (R108). -/
theorem exec_immediate {i : Instr} (hm : i.row.mode = .imm) : ∃ h, (∀ s, exec i s = perform i h s) ∧
    ((∀ o s, Quiet (readOperand o s) (h o s)) ∨ ∀ o s, Quiet s (h o s)) := by
  cases i <;> cases hm
  case oraImm | andImm | eorImm | adcImm | sbcImm | sbcImmEB | ldaImm | ldxImm | ldyImm | laxImm | cmpImm | cpxImm | cpyImm =>
    exact ⟨_, fun _ => rfl, .inl fun _ _ => ⟨rfl, rfl, rfl, rfl, rfl⟩⟩
  all_goals exact ⟨_, fun _ => rfl, .inr fun _ _ => ⟨rfl, rfl, rfl, rfl, rfl⟩⟩

/-! ### Every instruction and every call on the Bus -/

/-- Whatever instruction runs, the RAM it leaves is what its writes make of the RAM it found (R61). -/
theorem exec_mem {i : Instr} {s t : State} (he : exec i s = .next t) : t.mem = writesOn s.mem t.trace := by
  by_cases hm : i.row.mode = .imm
  · obtain ⟨h, hexec, hquiet⟩ := exec_immediate hm
    rw [hexec, perform_eq] at he
    cases he
    rcases hquiet with hq | hq
    · have hq := hq i.row.operand (resolved i s)
      simp [hq.mem, hq.trace, writesOn_append, writesOn_fetchReads, writesOn]
    · have hq := hq i.row.operand (resolved i s)
      simp [hq.mem, hq.trace, writesOn_fetchReads]
  · obtain ⟨h, hh, hexec⟩ := exec_perform i
    rw [hexec, perform_eq] at he
    cases he
    obtain ⟨l, htrace, hrun⟩ := hh.replays i.row.operand (resolved i s) hm
    simp [htrace, mem_of_busRun hrun, writesOn_append, writesOn_fetchReads]

/-- Whatever instruction runs, each byte of the flat RAM is the one it wrote there last. -/
theorem exec_byteAt {i : Instr} {s t : State} (hwf : Memory.wf s.mem) (he : exec i s = .next t) (a : Word) :
    t.byteAt a = lastWritten t.trace a (s.byteAt a) := by
  rw [State.byteAt, exec_mem he, memRead_writesOn hwf]
  rfl

/-- A read of what the Bus returns next goes through, and uses one answer. -/
theorem busRun_read (s : State) (n : Nat) (a : Word) (rest : List Access) :
    busRun s.mem (s.answers.drop n) (.read a (s.busByte n a) :: rest) = busRun s.mem (s.answers.drop (n + 1)) rest := by
  rw [busRun, if_pos (by simp [State.busByte, State.byteAt]), List.drop_drop]

/-- The resolver's reads go through when the operand is what the Bus returns behind the opcode (R117). -/
theorem resolverReads_busRun (s : State) (m : Mode) :
    let o := m.operandFrom (s.busByte 0 s.pc) (s.busByte 1 (s.pc + 1))
    busRun s.mem s.answers (resolverReads m o s) = some (s.mem, s.answers.drop (resolverReadCount m)) := by
  rw [show s.answers = s.answers.drop 0 from rfl]
  cases m
  case imp | acc | imm => rfl
  all_goals
    simp only [resolverReads, Mode.operandFrom, Operand.lo, Operand.hi, lo8_joinBytes, hi8_joinBytes, busRun_read]
    rfl

/-- The fetch and the resolver of the instruction that the Bus returned at `PC` ask the Bus for what they read. -/
theorem resolved_fetchInstr_busRun (s : State) :
    busRun s.mem s.answers (resolved (fetchInstr s) s).trace =
      some ((resolved (fetchInstr s) s).mem, (resolved (fetchInstr s) s).answers) := by
  have hop : (fetchInstr s).row.opcode = s.busByte 0 s.pc := decode_opcode ..
  have hrun := resolverReads_busRun (fetchOpcode (fetchInstr s).row s) (fetchInstr s).row.mode
  have hoperand : (fetchInstr s).row.operand =
      (fetchInstr s).row.mode.operandFrom (s.busByte 1 (s.pc + 1)) (s.busByte 2 (s.pc + 1 + 1)) := by
    rw [BitVec.add_assoc]
    exact decode_operand ..
  simp only [fetchOpcode_busByte, fetchOpcode_pc, Nat.reduceAdd, ← hoperand] at hrun
  rw [resolved_trace, fetchReads, hop, show s.answers = s.answers.drop 0 from rfl, busRun_read]
  exact hrun

/-- In Immediate mode the instruction's operand byte is what the Bus returns at `EA`, the address of that byte (R108). -/
theorem operandByte_fetchInstr_imm {s : State} (hm : (fetchInstr s).row.mode = .imm) :
    operandByte (fetchInstr s).row.operand (resolved (fetchInstr s) s) =
      (resolved (fetchInstr s) s).busByte 0 (resolved (fetchInstr s) s).ea := by
  have hoperand : (fetchInstr s).row.operand = .byte (s.busByte 1 (s.pc + 1)) := by
    rw [fetchInstr, decode_operand, ← fetchInstr, hm, Mode.operandFrom]
  simp [operandByte, hm, hoperand, Operand.lo, eaOf, effectiveAddress, resolverReadCount]

/-- The instruction that the Bus returned at `PC` asks the Bus for everything it reads. -/
theorem exec_fetchInstr_busRun {s t : State} (he : exec (fetchInstr s) s = .next t) :
    busRun s.mem s.answers t.trace = some (t.mem, t.answers) := by
  have hstart := resolved_fetchInstr_busRun s
  suffices hr : Replays (resolved (fetchInstr s) s) t by
    obtain ⟨l, htrace, hrun⟩ := hr
    rw [htrace, busRun_append _ _ _ _ _ _ hstart, hrun]
  by_cases hm : (fetchInstr s).row.mode = .imm
  · obtain ⟨h, hexec, hquiet⟩ := exec_immediate hm
    rw [hexec, perform_eq] at he
    cases he
    refine Replays.trans ?_ (addCycles_replays _ _)
    rcases hquiet with hq | hq
    · have hq := hq (fetchInstr s).row.operand (resolved (fetchInstr s) s)
      exact (readOperand_replays _ _ (operandByte_fetchInstr_imm hm)).trans (.of_eq hq.trace hq.answers hq.mem)
    · have hq := hq (fetchInstr s).row.operand (resolved (fetchInstr s) s)
      exact .of_eq hq.trace hq.answers hq.mem
  · obtain ⟨h, hh, hexec⟩ := exec_perform (fetchInstr s)
    rw [hexec, perform_eq] at he
    cases he
    exact (hh.replays _ _ hm).trans (addCycles_replays _ _)

/-- What begins with an empty trace and replays on the Bus is a run of the Bus. -/
theorem busRun_of_replays {s t : State} (h : Replays s.beginCall t) : busRun s.mem s.answers t.trace = some (t.mem, t.answers) := by
  obtain ⟨l, htrace, hrun⟩ := h
  rw [htrace]
  exact hrun

/-- An interrupt asks the Bus for its vector, after its three writes. -/
theorem interruptEntry_replays (vector : Word) (s : State) : Replays s.beginCall (interruptEntry vector s) :=
  (takeException_replays ..).trans (addCycles_replays _ _)

/-- `reset()` asks the Bus for its vector. -/
theorem resetCall_replays (s : State) : Replays s.beginCall (resetCall s) :=
  (jumpVector_replays _ Config.resetVector).trans (.of_eq rfl rfl rfl)

/-- Settles O55: each call is a run of the Bus, and `exec` of any instruction makes its reads and writes. -/
theorem busAnswersReadsAndTakesWrites : Obligations.BusAnswersReadsAndTakesWrites := by
  refine ⟨fun s t c hc h => ?_, fun i s t he => ⟨exec_answers i s t he, fun hwf => exec_byteAt hwf he⟩⟩
  rcases hostCall_cases c s t h with ⟨rfl, _, he⟩ | ⟨rfl, _, rfl⟩ | ⟨rfl, _, rfl⟩ | ⟨rfl, rfl⟩ | ⟨rfl, rfl⟩ |
    ⟨a, v, rfl, rfl⟩ | ⟨l, rfl, rfl⟩
  · exact exec_fetchInstr_busRun he
  · exact busRun_of_replays (interruptEntry_replays _ s)
  · exact busRun_of_replays (interruptEntry_replays _ s)
  · exact busRun_of_replays (resetCall_replays s)
  · rfl
  all_goals simp at hc

/-- Settles O60: with nothing settled by the host, the three fetch reads return the RAM's bytes (`exec_byteAt`). -/
theorem fetchSeesStore : Obligations.FetchSeesStore := by
  intro i s t hwf he hnone
  have hbus : ∀ k < 3, ∀ a, t.busByte k a = lastWritten t.trace a (s.byteAt a) := fun k hk a => by
    rw [State.busByte, hnone k hk, Option.getD_none, exec_byteAt hwf he]
  rw [fetchInstr, hbus 0 (by decide), hbus 1 (by decide), hbus 2 (by decide)]

/-! ### The invariant -/

/-- An interrupt makes five accesses. -/
theorem interruptEntry_inv (vector : Word) {s : State} (hwf : Memory.wf s.mem) : Inv (interruptEntry vector s) :=
  ⟨takeException_wf s.pc true vector s.beginCall hwf, by simp [interruptEntry_eq, takeException, State.push16]⟩

/-- Whatever call the host makes, its accesses are at most seven (`exec_trace_length` for `step()`), and its writes keep
the canonical form (`writesOn_wf`). -/
theorem hostCall_inv {c : HostCall} {s t : State} (hwf : Memory.wf s.mem) (h : hostCall c s = .next t) : Inv t := by
  rcases hostCall_cases c s t h with ⟨rfl, _, he⟩ | ⟨rfl, _, rfl⟩ | ⟨rfl, _, rfl⟩ | ⟨rfl, rfl⟩ | ⟨rfl, rfl⟩ |
    ⟨a, v, rfl, rfl⟩ | ⟨l, rfl, rfl⟩
  · exact ⟨exec_mem he ▸ writesOn_wf hwf _, exec_trace_length he⟩
  · exact interruptEntry_inv _ hwf
  · exact interruptEntry_inv _ hwf
  · exact ⟨hwf, by simp [resetCall]⟩
  · exact ⟨hwf, by simp [initializeCall]⟩
  · exact ⟨memWrite_wf _ _ _ a.isLt hwf, by simp [busSetCall]⟩
  · exact ⟨hwf, by simp [busAnswersCall]⟩

/-- Settles O53: a step is one call of the host. -/
theorem stepKeepsInvariant : Obligations.StepKeepsInvariant := by
  rintro s t ⟨hwf, _⟩ h
  rcases step_cases s t h with ⟨_, hc⟩ | ⟨c, cs, _, hc⟩
  · exact hostCall_inv hwf hc
  · exact hostCall_inv (s := { s with calls := cs }) hwf hc

end Sys2Proof.Machine

/-! What influences nothing (70_reset_and_hazards.md R315; 10_state.md R35 to R38; 42_arithmetic.md R154): two states
that the fetch and the resolver cannot tell apart resolve alike, and the handlers carry the difference through. -/

namespace Sys2Proof.Machine

/-- The two states agree in all that the fetch and the resolver look at. -/
structure SameView (s t : State) : Prop where
  pc : s.pc = t.pc
  x : s.x = t.x
  y : s.y = t.y
  mem : s.mem = t.mem
  answers : s.answers = t.answers
  sentinels : s.sentinels = t.sentinels

section
variable {s t : State} (hv : SameView s t)
include hv

theorem SameView.busByte (k : Nat) (a : Word) : s.busByte k a = t.busByte k a := by
  simp only [State.busByte, State.byteAt, hv.mem, hv.answers]

theorem SameView.fetchOpcode (r : Row) : SameView (fetchOpcode r s) (fetchOpcode r t) :=
  ⟨congrArg (· + 1) hv.pc, hv.x, hv.y, hv.mem, congrArg (·.drop 1) hv.answers, hv.sentinels⟩

theorem SameView.effectiveAddress (m : Mode) (o : Operand) : effectiveAddress m o s = effectiveAddress m o t := by
  cases m <;> simp only [Machine.effectiveAddress, zpPointer, indTarget, hv.busByte, hv.pc, hv.x, hv.y, hv.sentinels]

theorem SameView.resolverReads (m : Mode) (o : Operand) : resolverReads m o s = resolverReads m o t := by
  cases m <;> simp only [Machine.resolverReads, hv.busByte, hv.pc, hv.x]

theorem SameView.crossBonus (r : Row) : crossBonus r s = crossBonus r t := by
  have hbase : indexBase r.mode r.operand s = indexBase r.mode r.operand t := by
    cases r.mode <;> simp only [indexBase, zpPointer, hv.busByte]
  have hcrosses : indexCrosses r.mode r.operand s = indexCrosses r.mode r.operand t := by
    rw [indexCrosses, indexCrosses, hbase, hv.effectiveAddress]
  rw [Machine.crossBonus, Machine.crossBonus, hcrosses]

end

/-! ### The counter -/

theorem resolved_addCycles (i : Instr) (s : State) (k : Nat) : resolved i (s.addCycles k) = (resolved i s).addCycles k := by
  have hv := SameView.fetchOpcode (s := s.addCycles k) (t := s) ⟨rfl, rfl, rfl, rfl, rfl, rfl⟩ i.row
  simp only [resolved, resolve, hv.effectiveAddress, hv.resolverReads, hv.crossBonus]
  simp only [State.addCycles, fetchOpcode, Nat.add_right_comm]

theorem branch_addCycles (cond : Bool) (s : State) (k : Nat) :
    branch cond (s.addCycles k) = (branch cond s).addCycles k := by
  cases cond
  · rfl
  · simp only [branch_true, State.addCycles, State.setPC, takenCycles, Nat.add_right_comm]

theorem handleShift_addCycles (f : ShiftFn) (o : Operand) (s : State) (k : Nat) :
    handleShift f o (s.addCycles k) = (handleShift f o s).addCycles k := by
  by_cases hm : s.mode = .acc
  · rw [handleShift_acc f o s hm, handleShift_acc f o (s.addCycles k) hm]; rfl
  · rw [handleShift_mem f o s hm, handleShift_mem f o (s.addCycles k) hm]; rfl

theorem push_addCycles (s : State) (v : Byte) (k : Nat) : (s.addCycles k).push v = (s.push v).addCycles k := rfl
theorem pull_addCycles (s : State) (k : Nat) : (s.addCycles k).pull = s.pull.addCycles k := rfl
theorem pulled_addCycles (s : State) (k : Nat) : (s.addCycles k).pulled = s.pulled := rfl
theorem setP_addCycles (s : State) (p : Flags) (k : Nat) : (s.addCycles k).setP p = (s.setP p).addCycles k := rfl
theorem setPC_addCycles (s : State) (w : Word) (k : Nat) : (s.addCycles k).setPC w = (s.setPC w).addCycles k := rfl
theorem jumpVector_addCycles (s : State) (vector : Word) (k : Nat) :
    (s.addCycles k).jumpVector vector = (s.jumpVector vector).addCycles k := rfl

theorem takeException_addCycles (ret : Word) (m : Bool) (vector : Word) (s : State) (k : Nat) :
    takeException ret m vector (s.addCycles k) = (takeException ret m vector s).addCycles k := by
  simp only [takeException, State.push16, push_addCycles, setP_addCycles, jumpVector_addCycles, State.addCycles_p]

theorem returnFromException_addCycles (s : State) (k : Nat) :
    returnFromException (s.addCycles k) = (returnFromException s).addCycles k := by
  simp only [returnFromException, State.pull16, State.pulled16, pull_addCycles, pulled_addCycles, setP_addCycles,
    setPC_addCycles]

/-- No handler looks at the counter. -/
theorem IsHandler.addCycles {h : Handler} (hh : IsHandler h) (o : Operand) (s : State) (k : Nat) :
    h o (s.addCycles k) = (h o s).addCycles k := by
  cases hh
  case bpl | bmi | bvc | bvs | bcc | bcs | bne | beq => exact branch_addCycles _ s k
  case asl | lsr | rol | ror => exact handleShift_addCycles _ o s k
  case brk => exact takeException_addCycles _ _ _ s k
  case rti => exact returnFromException_addCycles s k
  case slo => exact congrArg (handleOra o) (handleShift_addCycles _ o s k)
  case rla => exact congrArg (handleAnd o) (handleShift_addCycles _ o s k)
  case sre => exact congrArg (handleEor o) (handleShift_addCycles _ o s k)
  case rra => exact congrArg (handleAdc o) (handleShift_addCycles _ o s k)
  all_goals rfl

/-- Settles O58: the counter goes through the fetch, the resolver and the handler unread. -/
theorem timingIsOutputOnly : Obligations.TimingIsOutputOnly := by
  intro i s t k he
  obtain ⟨h, hh, hexec⟩ := exec_perform i
  rw [hexec, perform_eq] at he ⊢
  cases he
  rw [show ({ s with cycles := s.cycles + k } : State) = s.addCycles k from rfl, resolved_addCycles, hh.addCycles]
  simp only [State.addCycles, Nat.add_right_comm]

/-! ### The scratch state -/

/-- The fetch writes `LastOpcode`, `CurrentMode` and the trace anew, and the resolver `EA`. -/
theorem resolved_scratch (i : Instr) (s : State) (op : Byte) (m : Mode) (ea : Word) (tr : List Access) :
    resolved i { s with lastOpcode := op, mode := m, ea := ea, trace := tr } = resolved i s := by
  have hv := SameView.fetchOpcode (s := { s with lastOpcode := op, mode := m, ea := ea, trace := tr }) (t := s)
    ⟨rfl, rfl, rfl, rfl, rfl, rfl⟩ i.row
  simp only [resolved, resolve, hv.effectiveAddress, hv.resolverReads, hv.crossBonus]
  rfl

/-- Settles O59: the handler starts from the resolved state, which is the same. -/
theorem scratchStateUnread : Obligations.ScratchStateUnread := by
  intro i s op m ea tr
  obtain ⟨h, _, hexec⟩ := exec_perform i
  rw [hexec, hexec, perform_eq, perform_eq, resolved_scratch]

/-! ### The decimal flag -/

/-- `P.D <- d`. -/
def State.setD (s : State) (d : Bool) : State := { s with p := { s.p with d := d } }

theorem resolved_setD (i : Instr) (s : State) (d : Bool) : resolved i (s.setD d) = (resolved i s).setD d := by
  have hv := SameView.fetchOpcode (s := s.setD d) (t := s) ⟨rfl, rfl, rfl, rfl, rfl, rfl⟩ i.row
  simp only [resolved, resolve, hv.effectiveAddress, hv.resolverReads, hv.crossBonus]
  rfl

theorem handleShift_setD (f : ShiftFn) (o : Operand) (s : State) (d : Bool) :
    handleShift f o (s.setD d) = (handleShift f o s).setD d := by
  by_cases hm : s.mode = .acc
  · rw [handleShift_acc f o s hm, handleShift_acc f o (s.setD d) hm]; rfl
  · rw [handleShift_mem f o s hm, handleShift_mem f o (s.setD d) hm]; rfl

/-- The adder is binary, and so are the four instructions that use it (R154). -/
theorem handleAdc_setD (o : Operand) (s : State) (d : Bool) : handleAdc o (s.setD d) = (handleAdc o s).setD d := rfl
theorem handleSbc_setD (o : Operand) (s : State) (d : Bool) : handleSbc o (s.setD d) = (handleSbc o s).setD d := rfl
theorem handleIsc_setD (o : Operand) (s : State) (d : Bool) : handleIsc o (s.setD d) = (handleIsc o s).setD d := rfl
theorem handleRra_setD (o : Operand) (s : State) (d : Bool) : handleRra o (s.setD d) = (handleRra o s).setD d :=
  (congrArg (handleAdc o) (handleShift_setD _ o s d)).trans (handleAdc_setD o _ d)

/-- An instruction whose handler carries the decimal flag through does so itself. -/
theorem exec_setD {i : Instr} {h : Handler} {s t : State} {d : Bool} (hexec : ∀ s, exec i s = perform i h s)
    (hd : ∀ o s, h o (s.setD d) = (h o s).setD d) (he : exec i s = .next t) : exec i (s.setD d) = .next (t.setD d) := by
  rw [hexec, perform_eq] at he ⊢
  cases he
  rw [resolved_setD, hd]
  rfl

/-- Settles O20: each of the four handlers carries the decimal flag through unread. -/
theorem decimalFlagInert : Obligations.DecimalFlagInert := by
  intro b w s t d i hi he
  simp only [List.mem_append] at hi
  rcases hi with ((hi | hi) | hi) | hi
  · exact exec_setD (exec_adcForms b w · i hi) (handleAdc_setD · · d) he
  · exact exec_setD (exec_sbcForms b w · i hi) (handleSbc_setD · · d) he
  · exact exec_setD (exec_rraForms b w · i hi) (handleRra_setD · · d) he
  · exact exec_setD (exec_iscForms b w · i hi) (handleIsc_setD · · d) he

end Sys2Proof.Machine

/-! The arithmetic the handlers rest on (42_arithmetic.md R150 to R152; 10_state.md R22, R30 to R32; 20_memory.md R58):
the adder's overflow, the flags byte and the stack, on natural numbers and integers. -/

namespace Sys2Proof.Machine

/-! ### The adder -/

/-- Bit 7 of a byte on its own. -/
theorem and_0x80_ne_zero (x : Byte) : x &&& 0x80 ≠ 0 ↔ x.getLsbD 7 = true := by revert x; decide

/-- Bit 7 of a byte as a number: its sign. -/
theorem getLsbD_seven (x : Byte) : x.getLsbD 7 = decide (128 ≤ x.toNat) := by revert x; decide

/-- The adder's result on natural numbers (R150). -/
theorem addResult_eq (a m : Byte) (c : Bool) :
    addResult a m c = BitVec.ofNat 8 ((a.toNat + m.toNat + c.toNat) % 256) := by
  rw [addResult, addSum, ← BitVec.toNat_inj, BitVec.toNat_ofNat, BitVec.toNat_ofNat, Nat.mod_mod]

/-- The overflow formula looks at the three signs: the operands have one, and the result the other. -/
theorem addOverflow_eq_true (a m r : Byte) : addOverflow a m r = true ↔
    (128 ≤ a.toNat ↔ 128 ≤ m.toNat) ∧ ¬(128 ≤ a.toNat ↔ 128 ≤ r.toNat) := by
  rw [addOverflow, bne_iff_ne, and_0x80_ne_zero, BitVec.getLsbD_and, BitVec.getLsbD_not, BitVec.getLsbD_xor,
    BitVec.getLsbD_xor, getLsbD_seven, getLsbD_seven, getLsbD_seven]
  by_cases ha : 128 ≤ a.toNat <;> by_cases hm : 128 ≤ m.toNat <;> by_cases hr : 128 ≤ r.toNat <;> simp [ha, hm, hr]

/-- The formula says that the signed sum leaves the byte's range (R150). -/
theorem addOverflow_iff (a m : Byte) (c : Bool) : addOverflow a m (addResult a m c) = true ↔
    a.toInt + m.toInt + c.toNat < -128 ∨ 127 < a.toInt + m.toInt + c.toNat := by
  have hr : (addResult a m c).toNat = (a.toNat + m.toNat + c.toNat) % 256 := BitVec.toNat_ofNat ..
  have ha := a.isLt
  have hm := m.isLt
  have hc : c.toNat ≤ 1 := Bool.toNat_le c
  rw [addOverflow_eq_true, hr, BitVec.toInt_eq_toNat_cond, BitVec.toInt_eq_toNat_cond]
  split <;> split <;> omega

/-- Settles O18: the formula is `addOverflow`. -/
theorem overflowFormulaIsSignedOverflow : Obligations.OverflowFormulaIsSignedOverflow := by
  intro a m c
  have hiff := addOverflow_iff a m c
  refine ⟨?_, Bool.eq_iff_iff.mpr (hiff.trans decide_eq_true_iff.symm)⟩
  rw [← hiff, addOverflow, bne_iff_ne]
  rfl

/-- The adder's flags on natural numbers and integers (R150). -/
theorem addFlags_eq (a m : Byte) (p : Flags) : addFlags a m p =
    withNZ (BitVec.ofNat 8 ((a.toNat + m.toNat + p.c.toNat) % 256))
      { p with c := decide (a.toNat + m.toNat + p.c.toNat > 255)
               v := decide (a.toInt + m.toInt + p.c.toNat < -128 ∨ 127 < a.toInt + m.toInt + p.c.toNat) } := by
  have hv := (overflowFormulaIsSignedOverflow a m p.c).2
  rw [addFlags, hv, addResult_eq]
  rfl

/-- The adder's flags on a complemented operand: those of the difference (R152). -/
theorem addFlags_subOperand (a m : Byte) (p : Flags) :
    let borrow : Int := 1 - p.c.toNat
    let diff : Int := (a.toNat : Int) - m.toNat - borrow
    let signed : Int := a.toInt - m.toInt - borrow
    addFlags a (subOperand m) p =
      withNZ (BitVec.ofInt 8 diff) { p with c := decide (0 ≤ diff), v := decide (signed < -128 ∨ 127 < signed) } := by
  intro borrow diff signed
  have hsigned : a.toInt + (subOperand m).toInt + p.c.toNat = signed := by rw [subOperand_toInt]; omega
  have hv := (overflowFormulaIsSignedOverflow a (subOperand m) p.c).2
  rw [hsigned] at hv
  rw [addFlags, hv, addResult_subOperand, decide_eq_decide.mpr (addSum_subOperand a m p.c)]
  rfl

/-! ### The flags byte -/

/-- Packing what a byte unpacked to gives the byte with bit 5 set and bit 4 clear (R32). -/
theorem packP_unpackP (b : Byte) : packP (unpackP b) = (b &&& 0xCF) ||| 0x20 := by revert b; decide

/-- The flags byte as a number (R31). -/
theorem packP_eq (p : Flags) : packP p =
    BitVec.ofNat 8 (p.n.toNat * 128 + p.v.toNat * 64 + 32 + p.d.toNat * 8 + p.i.toNat * 4 + p.z.toNat * 2 + p.c.toNat) := by
  obtain ⟨n, v, d, i, z, c⟩ := p
  revert n v d i z c
  decide

/-- Bits 5 and 4 of the flags byte are no state (R30). -/
theorem packP_bits (p : Flags) : (packP p).getLsbD 5 = true ∧ (packP p).getLsbD 4 = false := by
  obtain ⟨n, v, d, i, z, c⟩ := p
  revert n v d i z c
  decide

/-- Settles O37: packing and unpacking, over all settings of the flags and all bytes. -/
theorem flagsByteLayout : Obligations.FlagsByteLayout :=
  ⟨packP_eq, unpackP_packP, packP_unpackP, fun s => packP_bits s.p⟩

/-! ### The stack -/

/-- Settles O34: `stackAddr_toNat` gives the addresses, the rest is the definition of push and pull. -/
theorem stackPrimitives : Obligations.StackPrimitives := by
  refine ⟨stackAddr_toNat, fun s v => ?_, fun s => ⟨?_, ?_⟩, fun s w => ⟨rfl, rfl, joinBytes_toNat ..⟩⟩
  · rw [State.push, State.busWrite, State.setSP, stackAddr_toNat, byte_sub_one]
  · rw [State.pulled, State.busByte, State.byteAt, stackAddr_toNat, BitVec.toNat_add]
    rfl
  · rw [← byte_add_one]
    rfl

end Sys2Proof.Machine

/-! The statements about instructions that run straight on: a handler's Bus accesses come first, and what it does after
them (`Quiet`) writes registers and flags alone. -/

namespace Sys2Proof.Machine

/-- The model's N and Z are the spec's (00_scope.md R10). -/
theorem setNZ_eq_withNZ (v : Byte) (p : Flags) : setNZ v p = withNZ v p := rfl

/-- `i` run from `s` leaves the registers `r` and the flags `p`, makes the accesses `accesses` after its fetch and
resolver, writes the bytes `written` to the flat RAM, and continues with the next instruction. -/
def Effect (i : Instr) (s : State) (r : Regs) (p : Flags) (accesses : List Access) (written : List (Word × Byte)) : Prop :=
  ∃ t, exec i s = .next t ∧ t.regs = r ∧ t.p = p ∧ Straight i accesses s t ∧ MemAfter written s t

section
variable {i : Instr} {h : Handler} {s : State} {r : Regs} {p : Flags}

/-- The accesses made by `b`, and then registers and flags. -/
theorem Effect.of_quiet {accesses : List Access} {written : List (Word × Byte)} (b : State)
    (he : exec i s = perform i h s) (hq : Quiet b (h i.row.operand (resolved i s))) (hpc : b.pc = nextPC i s)
    (hcycles : b.cycles = (resolved i s).cycles) (htrace : b.trace = fetchReads i s ++ accesses)
    (hmem : MemAfter written s b) (hr : (h i.row.operand (resolved i s)).regs = r)
    (hp : (h i.row.operand (resolved i s)).p = p) : Effect i s r p accesses written := by
  have hnext : exec i s = .next ((h i.row.operand (resolved i s)).addCycles i.row.base) := he.trans (perform_eq i h s)
  refine ⟨_, hnext, hr, hp, ⟨exec_booked i s _ hnext, hq.pc.trans hpc, ?_, hq.trace.trans htrace⟩,
    hmem.of_mem rfl hq.mem.symm⟩
  rw [State.addCycles_cycles, hq.cycles, hcycles, resolved_cycles, costOf]
  omega

/-- No access. -/
theorem Effect.of_registers (he : exec i s = perform i h s)
    (hq : Quiet (resolved i s) (h i.row.operand (resolved i s)))
    (hr : (h i.row.operand (resolved i s)).regs = r) (hp : (h i.row.operand (resolved i s)).p = p) :
    Effect i s r p [] [] :=
  .of_quiet _ he hq (resolved_pc i s) rfl (List.append_nil _).symm (fun _ => rfl) hr hp

/-- One read of the operand. -/
theorem Effect.of_operand (he : exec i s = perform i h s)
    (hq : Quiet (readOperand i.row.operand (resolved i s)) (h i.row.operand (resolved i s)))
    (hr : (h i.row.operand (resolved i s)).regs = r) (hp : (h i.row.operand (resolved i s)).p = p) :
    Effect i s r p [.read (eaOf i s) (operandOf i s)] [] :=
  .of_quiet _ he hq (resolved_pc i s) rfl (by simp) (fun _ => rfl) hr hp

/-- One write, of `EA` or of the stack. -/
theorem Effect.of_write (hwf : Memory.wf s.mem) {a : Word} {v : Byte} (he : exec i s = perform i h s)
    (hq : Quiet ((resolved i s).busWrite a v) (h i.row.operand (resolved i s)))
    (hr : (h i.row.operand (resolved i s)).regs = r) (hp : (h i.row.operand (resolved i s)).p = p) :
    Effect i s r p [.write a v] [(a, v)] :=
  .of_quiet _ he hq (resolved_pc i s) rfl rfl (memAfter_one s _ a v hwf rfl) hr hp

end

/-! ### Load, store, transfer (41_load_store_transfer.md) -/

/-- Settles O13: one operand read, then the register and its N and Z. -/
theorem loadsReadByte : Obligations.LoadsReadByte := by
  refine fun b w => ⟨rfl, rfl, rfl, fun s i r hcase => ?_⟩
  rcases hcase with ⟨hi, rfl⟩ | ⟨hi, rfl⟩ | ⟨hi, rfl⟩
  · exact Effect.of_operand (exec_ldaForms b w s i hi) ⟨rfl, rfl, rfl, rfl, rfl⟩ (by simp [handleLda, State.regs])
      (by simp [handleLda, setNZ_eq_withNZ])
  · exact Effect.of_operand (exec_ldxForms b w s i hi) ⟨rfl, rfl, rfl, rfl, rfl⟩ (by simp [handleLdx, State.regs])
      (by simp [handleLdx, setNZ_eq_withNZ])
  · exact Effect.of_operand (exec_ldyForms b w s i hi) ⟨rfl, rfl, rfl, rfl, rfl⟩ (by simp [handleLdy, State.regs])
      (by simp [handleLdy, setNZ_eq_withNZ])

/-- Settles O14: one write of `EA`. -/
theorem storesWriteRegister : Obligations.StoresWriteRegister := by
  refine fun b w => ⟨rfl, rfl, rfl, fun s hwf r i hcase => ?_⟩
  rcases hcase with ⟨hi, rfl⟩ | ⟨hi, rfl⟩ | ⟨hi, rfl⟩
  · exact Effect.of_write hwf (exec_staForms b w s i hi) ⟨rfl, rfl, rfl, rfl, rfl⟩ rfl rfl
  · exact Effect.of_write hwf (exec_stxForms b w s i hi) ⟨rfl, rfl, rfl, rfl, rfl⟩ rfl rfl
  · exact Effect.of_write hwf (exec_styForms b w s i hi) ⟨rfl, rfl, rfl, rfl, rfl⟩ rfl rfl

/-- Settles O15: no access, one register copied. -/
theorem transfersCopyRegister : Obligations.TransfersCopyRegister := by
  refine ⟨rfl, fun s c hc => ?_⟩
  simp only [List.mem_cons, List.not_mem_nil, or_false] at hc
  rcases hc with rfl | rfl | rfl | rfl | rfl | rfl
  · exact Effect.of_registers (exec_tax s) ⟨rfl, rfl, rfl, rfl, rfl⟩ rfl rfl
  · exact Effect.of_registers (exec_tay s) ⟨rfl, rfl, rfl, rfl, rfl⟩ rfl rfl
  · exact Effect.of_registers (exec_txa s) ⟨rfl, rfl, rfl, rfl, rfl⟩ rfl rfl
  · exact Effect.of_registers (exec_tya s) ⟨rfl, rfl, rfl, rfl, rfl⟩ rfl rfl
  · exact Effect.of_registers (exec_tsx s) ⟨rfl, rfl, rfl, rfl, rfl⟩ rfl rfl
  · exact Effect.of_registers (exec_txs s) ⟨rfl, rfl, rfl, rfl, rfl⟩ rfl rfl

/-! ### Arithmetic (42_arithmetic.md) -/

/-- ADC on the operand. -/
theorem handleAdc_eq (o : Operand) (s : State) : handleAdc o s =
    ((readOperand o s).setA (addResult s.a (operandByte o s) s.p.c)).setP (addFlags s.a (operandByte o s) s.p) := rfl

/-- SBC on the operand. -/
theorem handleSbc_eq (o : Operand) (s : State) : handleSbc o s =
    ((readOperand o s).setA (addResult s.a (subOperand (operandByte o s)) s.p.c)).setP
      (addFlags s.a (subOperand (operandByte o s)) s.p) := rfl

/-- Settles O16: one operand read, then the adder (`addResult_eq`, `addFlags_eq`). -/
theorem adcAdds : Obligations.AdcAdds := by
  refine fun b w => ⟨rfl, fun s i hi => ?_⟩
  exact Effect.of_operand (exec_adcForms b w s i hi) ⟨rfl, rfl, rfl, rfl, rfl⟩
    (by simp [handleAdc_eq, State.regs, addResult_eq]) (by simp [handleAdc_eq, addFlags_eq])

/-- Settles O17: one operand read, then the adder on the complement (`addResult_subOperand`, `addFlags_subOperand`). -/
theorem sbcSubtracts : Obligations.SbcSubtracts := by
  refine fun b w => ⟨rfl, fun s i hi => ?_⟩
  exact Effect.of_operand (exec_sbcForms b w s i hi) ⟨rfl, rfl, rfl, rfl, rfl⟩
    (by simp [handleSbc_eq, State.regs, addResult_subOperand]) (by simp [handleSbc_eq, addFlags_subOperand])

/-! ### Logic, compare, increment and decrement (44_logic_compare_incdec.md) -/

/-- Settles O23: one operand read, then `A` with its N and Z. -/
theorem logicCombinesA : Obligations.LogicCombinesA := by
  refine fun b w => ⟨rfl, rfl, rfl, fun s i r hcase => ?_⟩
  rcases hcase with ⟨hi, rfl⟩ | ⟨hi, rfl⟩ | ⟨hi, rfl⟩
  · exact Effect.of_operand (exec_andForms b w s i hi) ⟨rfl, rfl, rfl, rfl, rfl⟩
      (by simp [handleAnd, setANZ, State.regs]) (by simp [handleAnd, setANZ, setNZ_eq_withNZ])
  · exact Effect.of_operand (exec_oraForms b w s i hi) ⟨rfl, rfl, rfl, rfl, rfl⟩
      (by simp [handleOra, setANZ, State.regs]) (by simp [handleOra, setANZ, setNZ_eq_withNZ])
  · exact Effect.of_operand (exec_eorForms b w s i hi) ⟨rfl, rfl, rfl, rfl, rfl⟩
      (by simp [handleEor, setANZ, State.regs]) (by simp [handleEor, setANZ, setNZ_eq_withNZ])

/-- Settles O24: one operand read, then the three flags. -/
theorem bitTestsMemory : Obligations.BitTestsMemory := by
  refine fun b w => ⟨rfl, fun s i hi => ?_⟩
  exact Effect.of_operand (exec_bitForms b w s i hi) ⟨rfl, rfl, rfl, rfl, rfl⟩ rfl (by simp [handleBit, bitFlags])

/-- A compare reads its operand, leaves its flags (`compareFlags_eq`), and says with Z that the two are equal. -/
theorem Effect.compare {i : Instr} {s : State} {reg : Byte}
    (heff : Effect i s s.regs (compareFlags reg (operandOf i s) s.p) [.read (eaOf i s) (operandOf i s)] []) :
    let m := operandOf i s
    ∃ t, exec i s = .next t ∧ t.regs = s.regs ∧
      t.p = withNZ (BitVec.ofNat 8 (reg.toNat + 256 - m.toNat)) { s.p with c := decide (m.toNat ≤ reg.toNat) } ∧
      (t.p.z = true ↔ reg = m) ∧ Straight i [.read (eaOf i s) m] s t ∧ MemSame s t := by
  obtain ⟨t, ht, hregs, hp, hstraight, hmem⟩ := heff
  exact ⟨t, ht, hregs, hp.trans (compareFlags_eq ..), hp ▸ compareFlags_z_iff .., hstraight, hmem⟩

/-- Settles O25: the three compares differ in their register alone. -/
theorem comparesSetFlags : Obligations.ComparesSetFlags := by
  intro b w s i reg hcase
  apply Effect.compare
  rcases hcase with ⟨hi, rfl⟩ | ⟨hi, rfl⟩ | ⟨hi, rfl⟩
  · exact Effect.of_operand (exec_cmpForms b w s i hi) ⟨rfl, rfl, rfl, rfl, rfl⟩ rfl (by simp [handleCmp])
  · exact Effect.of_operand (exec_cpxForms b w s i hi) ⟨rfl, rfl, rfl, rfl, rfl⟩ rfl (by simp [handleCpx])
  · exact Effect.of_operand (exec_cpyForms b w s i hi) ⟨rfl, rfl, rfl, rfl, rfl⟩ rfl (by simp [handleCpy])

/-- Settles O28: no access, one register stepped mod 256 (`byte_add_one`, `byte_sub_one`). -/
theorem incDecRegister : Obligations.IncDecRegister := by
  refine ⟨rfl, fun s => ?_⟩
  simp only [← byte_add_one, ← byte_sub_one]
  intro c hc
  simp only [List.mem_cons, List.not_mem_nil, or_false] at hc
  rcases hc with rfl | rfl | rfl | rfl
  · exact Effect.of_registers (exec_inx s) ⟨rfl, rfl, rfl, rfl, rfl⟩ rfl rfl
  · exact Effect.of_registers (exec_iny s) ⟨rfl, rfl, rfl, rfl, rfl⟩ rfl rfl
  · exact Effect.of_registers (exec_dex s) ⟨rfl, rfl, rfl, rfl, rfl⟩ rfl rfl
  · exact Effect.of_registers (exec_dey s) ⟨rfl, rfl, rfl, rfl, rfl⟩ rfl rfl

/-! ### Flags and no-ops (46_stack_system_flags.md, 47_illegal.md) -/

/-- Settles O43: no access, one flag written. -/
theorem flagInstructions : Obligations.FlagInstructions := by
  refine ⟨rfl, fun s c hc => ?_⟩
  simp only [List.mem_cons, List.not_mem_nil, or_false] at hc
  rcases hc with rfl | rfl | rfl | rfl | rfl | rfl | rfl
  · exact Effect.of_registers (exec_clc s) ⟨rfl, rfl, rfl, rfl, rfl⟩ rfl rfl
  · exact Effect.of_registers (exec_sec s) ⟨rfl, rfl, rfl, rfl, rfl⟩ rfl rfl
  · exact Effect.of_registers (exec_cli s) ⟨rfl, rfl, rfl, rfl, rfl⟩ rfl rfl
  · exact Effect.of_registers (exec_sei s) ⟨rfl, rfl, rfl, rfl, rfl⟩ rfl rfl
  · exact Effect.of_registers (exec_clv s) ⟨rfl, rfl, rfl, rfl, rfl⟩ rfl rfl
  · exact Effect.of_registers (exec_cld s) ⟨rfl, rfl, rfl, rfl, rfl⟩ rfl rfl
  · exact Effect.of_registers (exec_sed s) ⟨rfl, rfl, rfl, rfl, rfl⟩ rfl rfl

/-- Settles O42: their handler is `handleNothing`. -/
theorem noOpsDoNothing : Obligations.NoOpsDoNothing := by
  refine fun b w => ⟨rfl, rfl, rfl, fun s i hi => ?_⟩
  have hexec : exec i s = perform i handleNothing s := by
    simp only [List.mem_append] at hi
    rcases hi with (hi | hi) | hi
    · exact exec_nopForms b w s i hi
    · exact exec_placeholderForms b w s i hi
    · exact exec_kilForms s i hi
  exact Effect.of_registers hexec ⟨rfl, rfl, rfl, rfl, rfl⟩ rfl rfl

/-! ### LAX and SAX (47_illegal.md R243, R244) -/

/-- Settles O47: LAX is one operand read, SAX one write of `EA`. -/
theorem laxSaxMove : Obligations.LaxSaxMove := by
  refine fun b w => ⟨rfl, rfl, fun s => ⟨fun i hi => ?_, fun hwf i hi => ?_⟩⟩
  · exact Effect.of_operand (exec_laxForms b w s i hi) ⟨rfl, rfl, rfl, rfl, rfl⟩ (by simp [handleLax, State.regs])
      (by simp [handleLax, setNZ_eq_withNZ])
  · exact Effect.of_write hwf (exec_saxForms b w s i hi) ⟨rfl, rfl, rfl, rfl, rfl⟩ rfl rfl

/-! ### One byte pushed, one byte pulled (46_stack_system_flags.md R210 to R213) -/

/-- Settles O35: one write of the stack. -/
theorem phaPhpPush : Obligations.PhaPhpPush := by
  refine ⟨rfl, fun s hwf c hc => ?_⟩
  simp only [List.mem_cons, List.not_mem_nil, or_false, ← pushedP_true] at hc
  rcases hc with rfl | rfl
  · exact Effect.of_write hwf (exec_pha s) ⟨rfl, rfl, rfl, rfl, rfl⟩ rfl rfl
  · exact Effect.of_write hwf (exec_php s) ⟨rfl, rfl, rfl, rfl, rfl⟩ rfl rfl

end Sys2Proof.Machine

/-! The instructions that pull one byte, and those that read a byte of memory, write it back and perhaps read it again
(43_shift_rotate.md R160; 44_logic_compare_incdec.md R178, R179; 47_illegal.md R236). -/

namespace Sys2Proof.Machine

/-! ### One byte pulled (46_stack_system_flags.md R211, R213) -/

/-- One read of an address that the mode does not set. -/
theorem Effect.of_read {i : Instr} {h : Handler} {s : State} {r : Regs} {p : Flags} {a : Word}
    (he : exec i s = perform i h s) (hq : Quiet ((resolved i s).busRead a) (h i.row.operand (resolved i s)))
    (hr : (h i.row.operand (resolved i s)).regs = r) (hp : (h i.row.operand (resolved i s)).p = p) :
    Effect i s r p [.read a (s.busByte (1 + resolverReadCount i.row.mode) a)] [] :=
  .of_quiet _ he hq (resolved_pc i s) rfl (by simp) (fun _ => rfl) hr hp

/-- The byte above `SP` is the first that an Implied instruction reads behind its opcode. -/
theorem pulled_resolved {i : Instr} (hm : i.row.mode = .imp) (s : State) :
    (resolved i s).pulled = s.busByte 1 (stackAddr (s.sp + 1)) := by
  simp [State.pulled, hm, resolverReadCount]

/-- Settles O36: one read of the stack, then `A` or the flags (`packP_unpackP`). -/
theorem plaPlpPull : Obligations.PlaPlpPull := by
  refine ⟨rfl, fun s => ⟨?pla, ?plp⟩⟩
  case pla =>
    exact Effect.of_read (a := stackAddr (s.sp + 1)) (exec_pla s) ⟨rfl, rfl, rfl, rfl, rfl⟩
      (by simp [handlePla, State.regs, pulled_resolved (i := .pla) rfl])
      (by simp [handlePla, pulled_resolved (i := .pla) rfl, setNZ_eq_withNZ])
  case plp =>
    have heff : Effect .plp s _ (unpackP (s.busByte 1 (stackAddr (s.sp + 1)))) _ _ :=
      Effect.of_read (a := stackAddr (s.sp + 1)) (exec_plp s) ⟨rfl, rfl, rfl, rfl, rfl⟩ rfl
        (by simp [handlePlp, pulled_resolved (i := .plp) rfl])
    obtain ⟨t, ht, hregs, hp, hrest⟩ := heff
    exact ⟨t, ht, hregs, hp, hp ▸ packP_unpackP _, hrest⟩

/-! ### Read, write -/

/-- The instruction works on a byte of memory, neither on `A` nor on its own operand byte. -/
def Instr.onMemory (i : Instr) : Bool := i.row.mode != .acc && i.row.mode != .imm

theorem onMemory_of_mem {l : List Instr} {i : Instr} (hl : l.all Instr.onMemory = true) (hi : i ∈ l) :
    i.row.mode ≠ .acc ∧ i.row.mode ≠ .imm := by
  simpa [Instr.onMemory] using List.all_eq_true.mp hl i hi

/-- The state after the fetch, the resolver, and one read and one write of `EA`. -/
def modified (i : Instr) (s : State) (v : Byte) : State := ((resolved i s).busRead (eaOf i s)).busWrite (eaOf i s) v

section
variable {i : Instr} {h : Handler} {s u : State} {r : Regs} {p : Flags} {v : Byte}

/-- What a handler reads at `EA` is the operand. -/
theorem resolved_busByte_ea (hm : i.row.mode ≠ .imm) : (resolved i s).busByte 0 (eaOf i s) = operandOf i s := by
  rw [operandOf, if_neg hm, resolved_busByte, Nat.add_zero]

theorem modified_trace (hm : i.row.mode ≠ .imm) (v : Byte) :
    (modified i s v).trace = fetchReads i s ++ [.read (eaOf i s) (operandOf i s), .write (eaOf i s) v] := by
  rw [modified, State.busWrite_trace, State.busRead_trace, resolved_busByte_ea hm, resolved_trace, List.append_assoc]
  rfl

theorem modified_memAfter (hwf : Memory.wf s.mem) (v : Byte) : MemAfter [(eaOf i s, v)] s (modified i s v) :=
  memAfter_one s _ _ v hwf rfl

/-- One read and one write of `EA`. -/
theorem Effect.of_modified (hwf : Memory.wf s.mem) (hm : i.row.mode ≠ .imm) (he : exec i s = perform i h s)
    (hu : h i.row.operand (resolved i s) = u) (hq : Quiet (modified i s v) u) (hr : u.regs = r) (hp : u.p = p) :
    Effect i s r p [.read (eaOf i s) (operandOf i s), .write (eaOf i s) v] [(eaOf i s, v)] := by
  subst hu
  exact .of_quiet (modified i s v) he hq (resolved_pc i s) rfl (modified_trace hm v) (modified_memAfter hwf v) hr hp

/-- What INC and DEC do. -/
theorem modifyMem_resolved (hm : i.row.mode ≠ .imm) (f : Byte → Byte) : modifyMem f (resolved i s) =
    (modified i s (f (operandOf i s))).setP (setNZ (f (operandOf i s)) s.p) := by
  rw [modifyMem_eq, resolved_ea, resolved_busByte_ea hm]
  rfl

/-- What a shift does to memory. -/
theorem handleShift_resolved (hm : i.row.mode ≠ .acc ∧ i.row.mode ≠ .imm) (f : ShiftFn) (o : Operand) :
    handleShift f o (resolved i s) =
      (modified i s (f s.p.c (operandOf i s)).2).setP (shiftFlags (f s.p.c (operandOf i s)) s.p) := by
  rw [handleShift_mem f o _ hm.1, resolved_ea, resolved_busByte_ea hm.2]
  rfl

end

/-- Settles O27: one read and one write of `EA`, stepped mod 256 (`byte_add_one`, `byte_sub_one`). -/
theorem incDecMemory : Obligations.IncDecMemory := by
  refine fun b w => ⟨rfl, rfl, fun s hwf i r hcase => ?_⟩
  simp only [← byte_add_one, ← byte_sub_one] at hcase
  rcases hcase with ⟨hi, rfl⟩ | ⟨hi, rfl⟩
  · have hm := (onMemory_of_mem (l := incForms b w) rfl hi).2
    exact Effect.of_modified hwf hm (exec_incForms b w s i hi) (modifyMem_resolved hm _) ⟨rfl, rfl, rfl, rfl, rfl⟩ rfl rfl
  · have hm := (onMemory_of_mem (l := decForms b w) rfl hi).2
    exact Effect.of_modified hwf hm (exec_decForms b w s i hi) (modifyMem_resolved hm _) ⟨rfl, rfl, rfl, rfl, rfl⟩ rfl rfl

/-! ### Shift and rotate (43_shift_rotate.md) -/

section
variable {i : Instr} {f : ShiftFn} {s : State} {r : Byte} {c : Bool}

/-- A shift of `A`, whose byte function gives the result `r` and the carry `c`. -/
theorem shift_acc (he : exec i s = perform i (handleShift f) s) (hm : i.row.mode = .acc) (hf : f s.p.c s.a = (c, r)) :
    Effect i s { s.regs with a := r } (withNZ r { s.p with c := c }) [] [] := by
  have hu : handleShift f i.row.operand (resolved i s) = ((resolved i s).setA r).setP (withNZ r { s.p with c := c }) := by
    rw [handleShift_acc f _ _ hm, resolved_p, resolved_a, hf]
    rfl
  exact .of_registers he (by rw [hu]; exact ⟨rfl, rfl, rfl, rfl, rfl⟩) (by rw [hu]; rfl) (by rw [hu]; rfl)

/-- A shift of memory. -/
theorem shift_mem (hwf : Memory.wf s.mem) (he : exec i s = perform i (handleShift f) s)
    (hm : i.row.mode ≠ .acc ∧ i.row.mode ≠ .imm) (hf : f s.p.c (operandOf i s) = (c, r)) :
    Effect i s s.regs (withNZ r { s.p with c := c }) [.read (eaOf i s) (operandOf i s), .write (eaOf i s) r]
      [(eaOf i s, r)] := by
  have hu := handleShift_resolved (s := s) hm f i.row.operand
  rw [hf] at hu
  exact .of_modified hwf hm.2 he hu ⟨rfl, rfl, rfl, rfl, rfl⟩ rfl rfl

/-- A shift as R160 states it, for both operands: `A` where `onA` says so, else memory. -/
theorem shift_effect {onA : Prop} [Decidable onA] (hwf : Memory.wf s.mem) (he : exec i s = perform i (handleShift f) s)
    (hA : onA → i.row.mode = .acc) (hmem : ¬onA → i.row.mode ≠ .acc ∧ i.row.mode ≠ .imm)
    (hf : f s.p.c (if onA then s.a else operandOf i s) = (c, r)) :
    let v := if onA then s.a else operandOf i s
    ∃ t, exec i s = .next t ∧ t.p = withNZ r { s.p with c := c } ∧
      if onA then t.regs = { s.regs with a := r } ∧ Straight i [] s t ∧ MemSame s t
      else t.regs = s.regs ∧ Straight i [.read (eaOf i s) v, .write (eaOf i s) r] s t ∧ MemAfter [(eaOf i s, r)] s t := by
  by_cases h : onA
  · simp only [if_pos h] at hf ⊢
    obtain ⟨t, ht, hregs, hp, hrest⟩ := shift_acc he (hA h) hf
    exact ⟨t, ht, hp, hregs, hrest⟩
  · simp only [if_neg h] at hf ⊢
    obtain ⟨t, ht, hregs, hp, hrest⟩ := shift_mem hwf he (hmem h) hf
    exact ⟨t, ht, hp, hregs, hrest⟩

end

/-- The Accumulator form stands first in its list. -/
theorem onMemory_of_ne_head {l : List Instr} {a i : Instr} (hl : l.all Instr.onMemory = true) (hi : i ∈ a :: l)
    (hne : i ≠ a) : i.row.mode ≠ .acc ∧ i.row.mode ≠ .imm :=
  onMemory_of_mem hl ((List.mem_cons.mp hi).resolve_left hne)

/-- No form of ASL is one of LSR. -/
theorem aslForms_disjoint_lsrForms (b : Byte) (w : Word) : (aslForms b w).Disjoint (lsrForms b w) := by
  simp [aslForms, lsrForms]

/-- No form of ROL is one of ROR. -/
theorem rolForms_disjoint_rorForms (b : Byte) (w : Word) : (rolForms b w).Disjoint (rorForms b w) := by
  simp [rolForms, rorForms]

/-- Bit 7 after LSR. -/
theorem shiftedRight_seven (v : Byte) (p : Flags) : (withNZ (BitVec.ofNat 8 (v.toNat / 2)) p).n = false := by
  have hv := v.isLt
  simp only [withNZ, getLsbD_seven, BitVec.toNat_ofNat, decide_eq_false_iff_not]
  omega

/-- Bit 7 after ROR: the carry that entered. -/
theorem rotatedRight_seven (v : Byte) (c : Bool) (p : Flags) :
    (withNZ (BitVec.ofNat 8 (v.toNat / 2 + 128 * c.toNat)) p).n = c := by
  have hv := v.isLt
  simp only [withNZ, getLsbD_seven, BitVec.toNat_ofNat]
  cases c <;> simp <;> omega

/-- Settles O21: the byte functions are those of R161 and R162 (`aslFn_eq`, `lsrFn_eq`). -/
theorem shiftsMoveBits : Obligations.ShiftsMoveBits := by
  refine fun b w => ⟨rfl, rfl, fun s hwf i r c hcase => ?_⟩
  have hacc : i = .aslAcc ∨ i = .lsrAcc → i.row.mode = .acc := by rintro (rfl | rfl) <;> rfl
  rcases hcase with ⟨hi, rfl, rfl⟩ | ⟨hi, rfl, rfl⟩
  · obtain ⟨t, ht, hp, hrest⟩ := shift_effect hwf (exec_aslForms b w s i hi) hacc
      (fun hne => onMemory_of_ne_head rfl hi (hne ∘ .inl)) (aslFn_eq ..)
    exact ⟨t, ht, hp, fun hlsr => (aslForms_disjoint_lsrForms b w hi hlsr).elim, hrest⟩
  · obtain ⟨t, ht, hp, hrest⟩ := shift_effect hwf (exec_lsrForms b w s i hi) hacc
      (fun hne => onMemory_of_ne_head rfl hi (hne ∘ .inr)) (lsrFn_eq ..)
    exact ⟨t, ht, hp, fun _ => hp ▸ shiftedRight_seven _ _, hrest⟩

/-- Settles O22: the byte functions are those of R163 and R164 (`rolFn_eq`, `rorFn_eq`). -/
theorem rotatesMoveBits : Obligations.RotatesMoveBits := by
  refine fun b w => ⟨rfl, rfl, fun s hwf i r c hcase => ?_⟩
  have hacc : i = .rolAcc ∨ i = .rorAcc → i.row.mode = .acc := by rintro (rfl | rfl) <;> rfl
  rcases hcase with ⟨hi, rfl, rfl⟩ | ⟨hi, rfl, rfl⟩
  · obtain ⟨t, ht, hp, hrest⟩ := shift_effect hwf (exec_rolForms b w s i hi) hacc
      (fun hne => onMemory_of_ne_head rfl hi (hne ∘ .inl)) (rolFn_eq ..)
    exact ⟨t, ht, hp, fun hror => (rolForms_disjoint_rorForms b w hi hror).elim, hrest⟩
  · obtain ⟨t, ht, hp, hrest⟩ := shift_effect hwf (exec_rorForms b w s i hi) hacc
      (fun hne => onMemory_of_ne_head rfl hi (hne ∘ .inr)) (rorFn_eq ..)
    exact ⟨t, ht, hp, fun _ => hp ▸ rotatedRight_seven _ _ _, hrest⟩

end Sys2Proof.Machine

/-! The composites SLO, RLA, SRE, RRA, DCP and ISC (47_illegal.md R236 to R242): read, write, and read again of `EA`. -/

namespace Sys2Proof.Machine

/-- What a composite's second handler reads. -/
theorem operandByte_modified {i : Instr} {s : State} (hwf : Memory.wf s.mem) (hm : i.row.mode ≠ .imm) (o : Operand)
    (v : Byte) (p : Flags) : operandByte o ((modified i s v).setP p) = rereadOf i s v := by
  have hbus : (modified i s v).busByte 0 (eaOf i s) = rereadOf i s v := by
    rw [modified, State.busWrite_busByte _ _ _ (by exact hwf), if_pos rfl, State.busRead_answers, resolved_answers,
      List.drop_drop, List.getElem?_drop, rereadOf, Nat.add_zero]
  exact (operandByte_mem o _ hm).trans hbus

@[simp] theorem modified_a (i : Instr) (s : State) (v : Byte) : (modified i s v).a = s.a := rfl
@[simp] theorem modified_x (i : Instr) (s : State) (v : Byte) : (modified i s v).x = s.x := rfl
@[simp] theorem modified_y (i : Instr) (s : State) (v : Byte) : (modified i s v).y = s.y := rfl
@[simp] theorem modified_sp (i : Instr) (s : State) (v : Byte) : (modified i s v).sp = s.sp := rfl

/-- N and Z of the first handler are lost in those of the second. -/
@[simp] theorem withNZ_withNZ (v v' : Byte) (p : Flags) : withNZ v (withNZ v' p) = withNZ v p := rfl
@[simp] theorem withNZ_c (v : Byte) (p : Flags) : (withNZ v p).c = p.c := rfl
@[simp] theorem addFlags_withNZ (a m v : Byte) (p : Flags) : addFlags a m (withNZ v p) = addFlags a m p := rfl
@[simp] theorem compareFlags_withNZ (a m v : Byte) (p : Flags) : compareFlags a m (withNZ v p) = compareFlags a m p := rfl

section
variable {i : Instr} {s : State} {r : Regs} {p p' : Flags} {v : Byte}

/-- A composite: its first handler leaves `v` at `EA` and the flags `p'`, its second reads `EA` again. -/
theorem Effect.of_composite (hwf : Memory.wf s.mem) (hm : i.row.mode ≠ .imm) {first second : Handler}
    (he : exec i s = perform i (composite first second) s)
    (hfirst : first i.row.operand (resolved i s) = (modified i s v).setP p')
    (hq : Quiet (readOperand i.row.operand ((modified i s v).setP p'))
      (second i.row.operand ((modified i s v).setP p')))
    (hr : (second i.row.operand ((modified i s v).setP p')).regs = r)
    (hp : (second i.row.operand ((modified i s v).setP p')).p = p) :
    Effect i s r p [.read (eaOf i s) (operandOf i s), .write (eaOf i s) v, .read (eaOf i s) (rereadOf i s v)]
      [(eaOf i s, v)] := by
  have hu : composite first second i.row.operand (resolved i s) = second i.row.operand ((modified i s v).setP p') := by
    rw [composite, hfirst]
  rw [← hu] at hq hr hp
  refine .of_quiet _ he hq (resolved_pc i s) rfl ?_ (modified_memAfter hwf v) hr hp
  rw [readOperand_trace, operandByte_modified hwf hm, State.setP_trace, modified_trace hm, List.append_assoc]
  rfl

end

/-- The shift of a composite, whose byte function gives the byte `r` and the carry `c`. -/
theorem handleShift_composite {i : Instr} {f : ShiftFn} {s : State} {r : Byte} {c : Bool}
    (hm : i.row.mode ≠ .acc ∧ i.row.mode ≠ .imm) (hf : f s.p.c (operandOf i s) = (c, r)) (o : Operand) :
    handleShift f o (resolved i s) = (modified i s r).setP (withNZ r { s.p with c := c }) := by
  rw [handleShift_resolved hm, hf]
  rfl

/-- Settles O44: `aslFn_eq`, `rolFn_eq` and `lsrFn_eq` give the byte written and C, the logic on the byte reread gives
`A`, N and Z. -/
theorem sloRlaSreCombine : Obligations.SloRlaSreCombine := by
  refine fun b w => ⟨rfl, rfl, rfl, fun s hwf i r a c hcase => ?_⟩
  rcases hcase with ⟨hi, rfl, rfl, rfl⟩ | ⟨hi, rfl, rfl, rfl⟩ | ⟨hi, rfl, rfl, rfl⟩
  · have hm := onMemory_of_mem (l := sloForms b w) rfl hi
    exact Effect.of_composite hwf hm.2 (exec_sloForms b w s i hi) (handleShift_composite hm (aslFn_eq ..) _)
      ⟨rfl, rfl, rfl, rfl, rfl⟩ (by simp [handleOra, setANZ, State.regs, operandByte_modified hwf hm.2])
      (by simp [handleOra, setANZ, setNZ_eq_withNZ, operandByte_modified hwf hm.2])
  · have hm := onMemory_of_mem (l := rlaForms b w) rfl hi
    exact Effect.of_composite hwf hm.2 (exec_rlaForms b w s i hi) (handleShift_composite hm (rolFn_eq ..) _)
      ⟨rfl, rfl, rfl, rfl, rfl⟩ (by simp [handleAnd, setANZ, State.regs, operandByte_modified hwf hm.2])
      (by simp [handleAnd, setANZ, setNZ_eq_withNZ, operandByte_modified hwf hm.2])
  · have hm := onMemory_of_mem (l := sreForms b w) rfl hi
    exact Effect.of_composite hwf hm.2 (exec_sreForms b w s i hi) (handleShift_composite hm (lsrFn_eq ..) _)
      ⟨rfl, rfl, rfl, rfl, rfl⟩ (by simp [handleEor, setANZ, State.regs, operandByte_modified hwf hm.2])
      (by simp [handleEor, setANZ, setNZ_eq_withNZ, operandByte_modified hwf hm.2])

/-- The carry that leaves a byte shifted right, as a number. -/
theorem toNat_decide_odd (n : Nat) : (decide (n % 2 = 1)).toNat = n % 2 := by
  rcases Nat.mod_two_eq_zero_or_one n with h | h <;> simp [h]

/-- Settles O45: `rorFn_eq` gives the byte written and the carry-in, then the adder (`addResult_eq`, `addFlags_eq`). -/
theorem rraRotatesAndAdds : Obligations.RraRotatesAndAdds := by
  refine fun b w => ⟨rfl, fun s hwf i hi => ?_⟩
  have hm := onMemory_of_mem (l := rraForms b w) rfl hi
  refine Effect.of_composite hwf hm.2 (exec_rraForms b w s i hi) (handleShift_composite hm (rorFn_eq ..) _)
      ⟨rfl, rfl, rfl, rfl, rfl⟩ ?regs ?flags
  case regs => simp [handleAdc_eq, State.regs, operandByte_modified hwf hm.2, addResult_eq, toNat_decide_odd]
  case flags =>
    rw [handleAdc_eq, operandByte_modified hwf hm.2, State.setP_p, State.setP_p, addFlags_withNZ, addFlags_eq]
    simp [toNat_decide_odd]

/-- Settles O46: `byte_sub_one` and `byte_add_one` give the byte written, then the compare (`compareFlags_eq`) or the
adder on the complement (`addResult_subOperand`, `addFlags_subOperand`). -/
theorem dcpIscCombine : Obligations.DcpIscCombine := by
  refine fun b w => ⟨rfl, rfl, fun s hwf => ⟨fun i hi => ?dcp, fun i hi => ?isc⟩⟩
  case dcp =>
    have hm := (onMemory_of_mem (l := dcpForms b w) rfl hi).2
    simp only [← byte_sub_one, ← compareFlags_eq]
    exact Effect.of_composite hwf hm (exec_dcpForms b w s i hi) (modifyMem_resolved hm _)
      ⟨rfl, rfl, rfl, rfl, rfl⟩ (by simp [handleCmp, State.regs])
      (by simp [handleCmp, operandByte_modified hwf hm, setNZ_eq_withNZ])
  case isc =>
    have hm := (onMemory_of_mem (l := iscForms b w) rfl hi).2
    simp only [← byte_add_one]
    refine Effect.of_composite hwf hm (exec_iscForms b w s i hi) (modifyMem_resolved hm _)
      ⟨rfl, rfl, rfl, rfl, rfl⟩ ?regs ?flags
    case regs => simp [handleSbc_eq, State.regs, operandByte_modified hwf hm, setNZ_eq_withNZ, addResult_subOperand]
    case flags =>
      rw [handleSbc_eq, operandByte_modified hwf hm, State.setP_p, State.setP_p, setNZ_eq_withNZ, addFlags_withNZ,
        addFlags_subOperand]
      rfl

end Sys2Proof.Machine

/-! Branches, jumps, calls and returns (45_branch_jump.md R190 to R202; 46_stack_system_flags.md R214, R215). -/

namespace Sys2Proof.Machine

/-- Without the page-cross flag the base cost is the whole cost (R102). -/
theorem costOf_eq_base {i : Instr} (h : i.row.cross = false) (s : State) : costOf i s = i.row.base := by
  rw [costOf, (crossBonus_le _ _).2 h, Nat.add_zero]

/-- An instruction that is no branch and has no page-cross flag costs its base (R101). -/
theorem exec_cycles_of_base {i : Instr} {s t : State} (hcross : i.row.cross = false) (htaken : branchTaken i s.p = false)
    (he : exec i s = .next t) : t.cycles = s.cycles + i.row.base := by
  rw [exec_cycles he, costOf_eq_base hcross, htaken]
  rfl

/-! ### Branches (R190 to R198) -/

/-- A branch's next instruction and target. -/
theorem branch_addresses {i : Instr} {b : Byte} (hi : i ∈ branchForms b) (s : State) :
    nextPC i s = s.pc + 2 ∧ eaOf i s = s.pc + 2 + sext16 b ∧
      fetchReads i s = [.read s.pc i.row.opcode, .read (s.pc + 1) b] := by
  have htwo : s.pc + 1#16 + 1#16 = s.pc + 2#16 := BitVec.add_assoc ..
  simp only [branchForms, List.mem_cons, List.not_mem_nil, or_false] at hi
  rcases hi with rfl | rfl | rfl | rfl | rfl | rfl | rfl | rfl <;>
    exact ⟨rfl, congrArg (· + sext16 b) htwo, rfl⟩

theorem branch_regs (cond : Bool) (s : State) : (branch cond s).regs = s.regs := by cases cond <;> rfl
theorem branch_mem (cond : Bool) (s : State) : (branch cond s).mem = s.mem := by cases cond <;> rfl

/-- What a branch leaves, by its condition (R190). -/
theorem exec_branch {i : Instr} {b : Byte} (hi : i ∈ branchForms b) (s : State) :
    ∃ t, exec i s = .next t ∧ t.regs = s.regs ∧ t.p = s.p ∧ MemSame s t ∧ Booked i s t ∧
      t.trace = [.read s.pc i.row.opcode, .read (s.pc + 1) b] ∧
      (branchTaken i s.p = true → t.pc = s.pc + 2 + sext16 b ∧
        t.cycles = s.cycles + (if page (s.pc + 2 + sext16 b) = page (s.pc + 2) then 3 else 4)) ∧
      (branchTaken i s.p = false → t.pc = s.pc + 2 ∧ t.cycles = s.cycles + 2) := by
  obtain ⟨hnext, hea, hreads⟩ := branch_addresses hi s
  obtain ⟨hbase, hcross⟩ := row_of_branch hi
  have he := ((runs_branch hi).exec_eq s).trans (perform_eq _ _ s)
  have hcycles : ∀ t, exec i s = .next t → t.cycles = s.cycles + 2 +
      if branchTaken i s.p then (if page (s.pc + 2 + sext16 b) = page (s.pc + 2) then 1 else 2) else 0 := fun t ht => by
    rw [exec_cycles ht, costOf_eq_base hcross, hbase, hea, hnext]
  refine ⟨_, he, branch_regs .., branch_p .., State.byteAt_congr _ _ (branch_mem ..), exec_booked _ _ _ he, ?_,
    fun htaken => ⟨?_, ?_⟩, fun hnot => ⟨?_, ?_⟩⟩
  · simp [hreads]
  · simp [htaken, hea]
  · rw [hcycles _ he, htaken, if_pos rfl, Nat.add_assoc]
    split <;> rfl
  · simp [hnot, hnext]
  · rw [hcycles _ he, hnot]
    rfl

/-- Settles O29: `exec_branch`, with each branch's condition written out (`branchTaken`). -/
theorem branchesTestFlag : Obligations.BranchesTestFlag := by
  refine fun off => ⟨rfl, fun s c hc => ?_⟩
  have hcond : c.1 ∈ branchForms off ∧ (c.2 ↔ branchTaken c.1 s.p = true) := by
    simp only [List.mem_cons, List.not_mem_nil, or_false] at hc
    rcases hc with rfl | rfl | rfl | rfl | rfl | rfl | rfl | rfl <;> simp [branchForms, branchTaken]
  obtain ⟨hi, htaken⟩ := hcond
  rw [htaken, Bool.not_eq_true]
  exact exec_branch hi s

/-! ### Jumps, calls and returns (R199 to R201) -/

/-- Settles O30: `EA` is the operand, or the word behind it. -/
theorem jmpAssignsPC : Obligations.JmpAssignsPC := by
  refine fun w => ⟨rfl, fun s c hc => ?_⟩
  simp only [List.mem_cons, List.not_mem_nil, or_false] at hc
  rcases hc with rfl | rfl
  · have he : exec (.jmpAbs w) s = _ := perform_eq (.jmpAbs w) handleJmp s
    exact ⟨_, he, rfl, rfl, rfl, fun _ => rfl, exec_booked _ _ _ he, rfl, exec_cycles_of_base rfl rfl he⟩
  · have he : exec (.jmpInd w) s = _ := perform_eq (.jmpInd w) handleJmp s
    refine ⟨_, he, ?_, rfl, rfl, fun _ => rfl, exec_booked _ _ _ he, rfl, exec_cycles_of_base rfl rfl he⟩
    simp [handleJmp, eaOf, effectiveAddress, indTarget, indNext, Instr.row, Operand.asWord]

/-- Settles O31: two pushes of the address before `PC`, which is that of the instruction's third byte. -/
theorem jsrPushesReturnAddress : Obligations.JsrPushesReturnAddress := by
  refine fun w => ⟨rfl, fun s hwf => ?_⟩
  have he : exec (.jsrAbs w) s = _ := perform_eq (.jsrAbs w) handleJsr s
  have hret : (resolved (.jsrAbs w) s).pc - 1 = s.pc + 2 := by
    have hnext : nextPC (.jsrAbs w) s = s.pc + 3 := rfl
    rw [resolved_pc, hnext]
    bv_omega
  have hmem : (handleJsr (.word w) (resolved (.jsrAbs w) s)).mem =
      memWrite (memWrite s.mem (stackAddr s.sp).toNat (hi8 (s.pc + 2))) (stackAddr (s.sp - 1)).toNat (lo8 (s.pc + 2)) := by
    rw [handleJsr, hret]
    rfl
  refine ⟨_, he, rfl, ?_, by simp [handleJsr, State.push16], exec_booked _ _ _ he, exec_cycles_of_base rfl rfl he, ?_,
    memAfter_two s _ _ _ _ _ hwf hmem (stackAddr_ne s.sp).1⟩
  · simp [handleJsr, State.regs, State.push16, byte_sub_one_one]
  · have htrace : (handleJsr (.word w) (resolved (.jsrAbs w) s)).trace = fetchReads (.jsrAbs w) s ++
        [.write (stackAddr s.sp) (hi8 (s.pc + 2)), .write (stackAddr (s.sp - 1)) (lo8 (s.pc + 2))] := by
      rw [handleJsr, hret]
      simp [State.push16]
    have htwo : s.pc + 1#16 + 1#16 = s.pc + 2#16 := BitVec.add_assoc ..
    refine htrace.trans ?_
    simp [fetchReads, resolverReads, Instr.row, Operand.lo, Operand.hi, htwo]

/-- Settles O32: two pulls, low byte first. -/
theorem rtsPullsReturnAddress : Obligations.RtsPullsReturnAddress := by
  refine ⟨rfl, fun s => ?_⟩
  have he : exec .rts s = _ := perform_eq .rts handleRts s
  refine ⟨_, he, ?_, ?_, by simp [handleRts, State.pull16], exec_booked _ _ _ he, exec_cycles_of_base rfl rfl he,
    fun _ => by simp [handleRts, State.pull16], ?_⟩
  · simp [handleRts, State.pulled16, State.pulled, byte_add_one_one, Instr.row, resolverReadCount]
  · simp [handleRts, State.regs, State.pull16, byte_add_one_one]
  · simp [handleRts, State.pull16, State.pulled, byte_add_one_one, Instr.row, fetchReads, resolverReads,
      resolverReadCount]

end Sys2Proof.Machine

/-! Exceptions and returns (46_stack_system_flags.md R214, R215; 60_exceptions.md R278 to R281), and what a return
undoes. -/

namespace Sys2Proof.Machine

/-- BRK pushes its own address + 2 (R214, `BRK_PAD`). -/
theorem exec_brk_eq (s : State) :
    exec .brk s = .next ((takeException (s.pc + 2) true 0xFFFE (resolved .brk s)).addCycles 7) := by
  have hret : (resolved .brk s).pc + Config.brkPad = s.pc + 2 := by
    rw [resolved_pc]
    exact BitVec.add_assoc ..
  rw [exec_brk, perform_eq, handleBrk, hret]
  rfl

/-- Settles O39: `takeException` after the opcode's read. -/
theorem brkTakesException : Obligations.BrkTakesException := by
  refine ⟨rfl, fun s hwf => ?_⟩
  have he := exec_brk_eq s
  have hpc := takeException_pc_of_le (s.pc + 2) true 0xFFFE (resolved .brk s) hwf (by decide) (by decide)
  have htrace := takeException_trace (s.pc + 2) true 0xFFFE (resolved .brk s) hwf (by decide) (by decide)
  have hmem := takeException_memAfter (s.pc + 2) 0xFFFE (resolved .brk s) hwf
  have hreads : fetchReads .brk s = [.read s.pc 0x00] := rfl
  have hcount : resolverReadCount Instr.brk.row.mode = 0 := rfl
  have hvector : (0xFFFE : Word) + 1 = 0xFFFF := rfl
  simp only [resolved_busByte, hcount, resolved_sp, resolved_p, resolved_trace, hreads, hvector, pushedP_true,
    Nat.reduceAdd, List.singleton_append] at hpc htrace hmem
  refine ⟨_, he, hpc, ?_, ?_, exec_booked _ _ _ he, exec_cycles_of_base rfl rfl he, htrace,
    hmem.of_mem (resolved_mem ..) (State.addCycles_mem ..).symm⟩
  · simp [State.regs]
  · simp

/-- Settles O40: `returnFromException` after the opcode's read. -/
theorem rtiReturns : Obligations.RtiReturns := by
  refine ⟨rfl, fun s => ?_⟩
  have he : exec .rti s = .next ((returnFromException (resolved .rti s)).addCycles 6) := perform_eq .rti handleRti s
  have hreads : fetchReads .rti s = [.read s.pc 0x40] := rfl
  have hcount : resolverReadCount Instr.rti.row.mode = 0 := rfl
  refine ⟨_, he, ?_, ?_, ?_, exec_booked _ _ _ he, exec_cycles_of_base rfl rfl he, fun a => ?_, ?_⟩
  · simp [returnFromException_pc, hcount]
  · simp [State.regs]
  · simp [unpackP, hcount]
  · simp
  · simp [returnFromException_trace, hreads, hcount]

end Sys2Proof.Machine

/-! What a return undoes, over the flat RAM (45_branch_jump.md R202; 46_stack_system_flags.md R212, R213;
60_exceptions.md R281), and what SBC undoes (42_arithmetic.md R153). -/

namespace Sys2Proof.Machine

/-- The host settles nothing after an instruction when it settled nothing before. -/
theorem Booked.answers_nil {i : Instr} {s t : State} (h : Booked i s t) (hnil : s.answers = []) : t.answers = [] := by
  rw [h.answers, hnil, List.drop_nil]

/-! ### The bytes on the stack -/

section
variable {s t : State} {v1 v2 v3 : Byte}

/-- One byte pushed. -/
theorem MemAfter.pushed_one (h : MemAfter [(stackAddr s.sp, v1)] s t) : t.byteAt (stackAddr s.sp) = v1 := by
  rw [h, lookup_one, if_pos rfl]

/-- Two bytes pushed. -/
theorem MemAfter.pushed_two (h : MemAfter [(stackAddr s.sp, v1), (stackAddr (s.sp - 1), v2)] s t) :
    t.byteAt (stackAddr s.sp) = v1 ∧ t.byteAt (stackAddr (s.sp - 1)) = v2 := by
  obtain ⟨h1, _, _⟩ := stackAddr_ne s.sp
  constructor
  · rw [h, lookup_cons, if_pos rfl]
  · rw [h, lookup_cons, if_neg h1.symm, lookup_one, if_pos rfl]

/-- Three bytes pushed. -/
theorem MemAfter.pushed_three
    (h : MemAfter [(stackAddr s.sp, v1), (stackAddr (s.sp - 1), v2), (stackAddr (s.sp - 2), v3)] s t) :
    t.byteAt (stackAddr s.sp) = v1 ∧ t.byteAt (stackAddr (s.sp - 1)) = v2 ∧ t.byteAt (stackAddr (s.sp - 2)) = v3 := by
  obtain ⟨h1, h2, h3⟩ := stackAddr_ne s.sp
  refine ⟨?_, ?_, ?_⟩
  · rw [h, lookup_cons, if_pos rfl]
  · rw [h, lookup_cons, if_neg h1.symm, lookup_cons, if_pos rfl]
  · rw [h, lookup_cons, if_neg h2.symm, lookup_cons, if_neg h3.symm, lookup_one, if_pos rfl]

end

/-! ### RTS after JSR, PLP after PHP -/

/-- Settles O33: RTS pulls the two bytes that JSR pushed. -/
theorem rtsUndoesJsr : Obligations.RtsUndoesJsr := by
  intro s t u w hwf hnil hjsr hrts
  obtain ⟨t', ht', _, htregs, htp, hbooked, _, _, hmem⟩ := (jsrPushesReturnAddress w).2 s hwf
  obtain ⟨u', hu', hupc, huregs, hup, _⟩ := rtsPullsReturnAddress.2 t
  obtain rfl : t = t' := Host.Outcome.next.inj (hjsr.symm.trans ht')
  obtain rfl : u = u' := Host.Outcome.next.inj (hrts.symm.trans hu')
  have hsp : t.sp = s.sp - 2 := congrArg Regs.sp htregs
  have hone : t.sp + 1 = s.sp - 1 := by rw [hsp]; bv_omega
  have htwo : t.sp + 2 = s.sp := by rw [hsp]; bv_omega
  have hans := hbooked.answers_nil hnil
  obtain ⟨hhi, hlo⟩ := hmem.pushed_two
  refine ⟨?_, ?_, hup.trans htp⟩
  · rw [hupc, t.busByte_of_nil hans, t.busByte_of_nil hans, hone, htwo, hhi, hlo, joinBytes_hi8_lo8, BitVec.add_assoc]
    rfl
  · rw [huregs, htwo, htregs]
    rfl

/-- Settles O38: PLP pulls the byte that PHP pushed, which unpacks to the flags. -/
theorem plpUndoesPhp : Obligations.PlpUndoesPhp := by
  intro s t u p hwf hnil hphp hplp
  obtain ⟨t', ht', htregs, _, hstraight, hmem⟩ := phaPhpPush.2 s hwf (.php, packP s.p ||| 0x30) (by simp)
  obtain ⟨u', hu', huregs, hup, _⟩ := (plaPlpPull.2 (t.setP p)).2
  obtain rfl : t = t' := Host.Outcome.next.inj (hphp.symm.trans ht')
  obtain rfl : u = u' := Host.Outcome.next.inj (hplp.symm.trans hu')
  have hsp : t.sp = s.sp - 1 := congrArg Regs.sp htregs
  have hone : t.sp + 1 = s.sp := by rw [hsp]; bv_omega
  have hpulled : (t.setP p).busByte 1 (stackAddr ((t.setP p).sp + 1)) = pushedP true s.p := by
    rw [State.setP_busByte, State.setP_sp, t.busByte_of_nil (hstraight.answers_nil hnil), hone, pushedP_true]
    exact hmem.pushed_one
  have hflags : u.p = s.p := by
    rw [hup, hpulled]
    exact unpackP_pushedP true s.p
  have hregs : u.regs = { t.regs with sp := t.sp + 1 } := huregs
  refine ⟨hflags, ?_, congrArg packP hflags⟩
  rw [hregs, hone, htregs]
  rfl

/-! ### RTI after BRK, IRQ or NMI -/

/-- RTI over the three bytes that an exception pushed. -/
theorem rti_of_pushed {s t u : State} {ret : Word} (hans : t.answers = []) (hregs : t.regs = { s.regs with sp := s.sp - 3 })
    (hmem : MemAfter [(stackAddr s.sp, hi8 ret), (stackAddr (s.sp - 1), lo8 ret),
      (stackAddr (s.sp - 2), packP s.p ||| 0x30)] s t)
    (hrti : exec .rti t = .next u) : u.pc = ret ∧ u.p = s.p ∧ u.regs = s.regs := by
  obtain ⟨u', hu', hupc, huregs, hup, _⟩ := rtiReturns.2 t
  obtain rfl : u = u' := Host.Outcome.next.inj (hrti.symm.trans hu')
  have hsp : t.sp = s.sp - 3 := congrArg Regs.sp hregs
  have hone : t.sp + 1 = s.sp - 2 := by rw [hsp]; bv_omega
  have htwo : t.sp + 2 = s.sp - 1 := by rw [hsp]; bv_omega
  have hthree : t.sp + 3 = s.sp := by rw [hsp]; bv_omega
  obtain ⟨hhi, hlo, hflags⟩ := hmem.pushed_three
  rw [t.busByte_of_nil hans, hone, hflags, ← pushedP_true] at hup
  refine ⟨?_, hup.trans (unpackP_pushedP true s.p), ?_⟩
  · rw [hupc, t.busByte_of_nil hans, t.busByte_of_nil hans, htwo, hthree, hhi, hlo, joinBytes_hi8_lo8]
  · rw [huregs, hthree, hregs]
    rfl

/-- RTI after an interrupt. -/
theorem rti_of_interruptEntry {s u : State} (hwf : Memory.wf s.mem) (hnil : s.answers = []) (vector : Word)
    (hv : 512 ≤ vector.toNat) (hv' : 512 ≤ (vector + 1).toNat) (hrti : exec .rti (interruptEntry vector s) = .next u) :
    u.pc = s.pc ∧ u.p = s.p ∧ u.regs = s.regs := by
  obtain ⟨_, hregs, _, _, _, hmem, _, _, _, _, _, _, hans⟩ := interruptEntry_leaves s hwf vector hv hv'
  rw [hnil, List.drop_nil] at hans
  exact rti_of_pushed hans hregs hmem hrti

/-- Settles O41: BRK and the interrupts leave the same frame. -/
theorem rtiUndoesEntry : Obligations.RtiUndoesEntry := by
  intro s t u hwf hnil hrti
  refine ⟨fun hbrk => ?_, ?_⟩
  · obtain ⟨t', ht', _, hregs, _, hbooked, _, _, hmem⟩ := brkTakesException.2 s hwf
    obtain rfl : t = t' := Host.Outcome.next.inj (hbrk.symm.trans ht')
    exact rti_of_pushed (hbooked.answers_nil hnil) hregs hmem hrti
  · rintro (rfl | rfl)
    · exact rti_of_interruptEntry hwf hnil _ (by decide) (by decide) hrti
    · exact rti_of_interruptEntry hwf hnil _ (by decide) (by decide) hrti

/-! ### SBC after ADC -/

/-- Taking away what was added, with no borrow. -/
theorem addResult_addResult (a m : Byte) : addResult (addResult a m false) (subOperand m) true = a := by
  have ha := a.isLt
  have hm := m.isLt
  apply BitVec.eq_of_toNat_eq
  simp only [addResult, addSum, subOperand_toNat, BitVec.toNat_ofNat, Bool.toNat_false, Bool.toNat_true]
  omega

theorem a_of_adcImm {s t : State} {m : Byte} (h : exec (.adcImm m) s = .next t) : t.a = addResult s.a m s.p.c := by
  cases h
  rfl

theorem a_of_sbcImm {s t : State} {m : Byte} (h : exec (.sbcImm m) s = .next t) :
    t.a = addResult s.a (subOperand m) s.p.c := by
  cases h
  rfl

/-- Settles O19: SBC's adder on ADC's sum (`addResult_addResult`). -/
theorem sbcUndoesAdc : Obligations.SbcUndoesAdc := by
  intro s t u m hc hadc hsbc
  rw [a_of_sbcImm hsbc, a_of_adcImm hadc, hc]
  exact addResult_addResult s.a m

end Sys2Proof.Machine
